-- ==== Sys2Proof/Word.lean ====
section
/-! DEFINITION. The widths the spec names (00_scope.md R8 to R11) and the plainest arithmetic over them.
No operation is signed (R11), so every value is a bit vector or a natural number. -/

namespace Sys2Proof

/-- A byte of a byte-array region (KEY, IV, RES, STATE, DBUF). -/
abbrev Byte := BitVec 8

/-- A 16-bit word: KASUMI's subkeys. -/
abbrev HWord := BitVec 16

/-- A 32-bit word: the data path, every register, SNOW 3G and ZUC words. -/
abbrev Word := BitVec 32

/-- A 64-bit word: KASUMI blocks, Keccak lanes, the UIA2 accumulator. -/
abbrev DWord := BitVec 64

/-- `ceil_div(a, b)` of 00_scope.md R11, for `b > 0`. -/
def ceilDiv (a b : Nat) : Nat := (a + b - 1) / b

/-- `f` applied `n` times. -/
def iter {α : Type} (f : α → α) : Nat → α → α
  | 0, x => x
  | n + 1, x => f (iter f n x)

end Sys2Proof
end

