-- ==== Sys2Proof/Syntax.lean ====
section
/-! DEFINITION. The commands of the engine (30_encoding.md R113), one constructor per row of the opcode
table. The one operand a command word carries is the slot number `c` of the "ctx" commands (R112);
every other operand is a register, read at the engine step (R117). -/

namespace Sys2Proof

/-- A command. The argument of a "ctx" command is its context slot `c`. -/
inductive Instr where
  | nop
  | kasumiKs (c : Nat)
  | kasumiEnc (c : Nat)
  | kasumiF8
  | kasumiF9
  | snow3gInit (c : Nat)
  | snow3gGenks (c : Nat)
  | snow3gUea2
  | snow3gUia2
  | zucInit (c : Nat)
  | zucGenks (c : Nat)
  | zucEea3
  | zucEia3
  | comp128V1
  | comp128V2
  | comp128V3
  | keccakP1600
  | ctxClear (c : Nat)
  deriving DecidableEq, Repr

/-- The slot of a "ctx" command (the column "ctx" of R113); none for the others. -/
def Instr.slot? : Instr → Option Nat
  | .nop => none
  | .kasumiKs c => some c
  | .kasumiEnc c => some c
  | .kasumiF8 => none
  | .kasumiF9 => none
  | .snow3gInit c => some c
  | .snow3gGenks c => some c
  | .snow3gUea2 => none
  | .snow3gUia2 => none
  | .zucInit c => some c
  | .zucGenks c => some c
  | .zucEea3 => none
  | .zucEia3 => none
  | .comp128V1 => none
  | .comp128V2 => none
  | .comp128V3 => none
  | .keccakP1600 => none
  | .ctxClear c => some c

end Sys2Proof
end

