-- ==== Sys2Proof/WellFormed.lean ====
section
/-! DEFINITION. Which commands a command word can hold: the CTX field is four bits wide, so a slot number
is at most 15 (30_encoding.md R111, R112). That a slot exists (`c < N_CTX`) is no matter of syntax:
the engine step checks it and reports PARAM (60_exceptions.md R362). -/

namespace Sys2Proof

/-- The slot number of a "ctx" command fits CTX, bits 11:8 (R111). -/
def Instr.wellFormed (i : Instr) : Bool :=
  match i.slot? with
  | some c => decide (c < 16)
  | none => true

end Sys2Proof
end

