-- ==== Sys2Proof/Decode.lean ====
section
/-! DEFINITION. The command word (30_encoding.md R110 to R114): OP in bits 7:0, CTX in bits 11:8, RSV in
bits 31:12. `decode` is total; a word it rejects is illegal (R114) and it says why. `encode` is
written from the same table. -/

namespace Sys2Proof

/-- Why a command word is illegal (R114). The engine reports each as ILLEGAL (60_exceptions.md R361). -/
inductive DecodeError where
  /-- RSV ≠ 0. -/
  | reservedBits
  /-- OP is not in the table of R113. -/
  | undefinedOp
  /-- CTX ≠ 0 for a command not marked "ctx". -/
  | ctxNotZero
  deriving DecidableEq, Repr

/-- OP, bits 7:0 (R111). -/
def opField (w : Word) : Nat := (w.extractLsb' 0 8).toNat

/-- CTX, bits 11:8, an unsigned slot number (R111, R112). -/
def ctxField (w : Word) : Nat := (w.extractLsb' 8 4).toNat

/-- RSV, bits 31:12 (R111). -/
def rsvField (w : Word) : Nat := (w.extractLsb' 12 20).toNat

/-- A command not marked "ctx": CTX must be 0 (R114). -/
def decodePlain (c : Nat) (i : Instr) : Except DecodeError Instr :=
  if c = 0 then .ok i else .error .ctxNotZero

/-- The opcode map of R113. -/
def decodeOp (op c : Nat) : Except DecodeError Instr :=
  match op with
  | 0x00 => decodePlain c .nop
  | 0x01 => .ok (.kasumiKs c)
  | 0x02 => .ok (.kasumiEnc c)
  | 0x03 => decodePlain c .kasumiF8
  | 0x04 => decodePlain c .kasumiF9
  | 0x11 => .ok (.snow3gInit c)
  | 0x12 => .ok (.snow3gGenks c)
  | 0x13 => decodePlain c .snow3gUea2
  | 0x14 => decodePlain c .snow3gUia2
  | 0x21 => .ok (.zucInit c)
  | 0x22 => .ok (.zucGenks c)
  | 0x23 => decodePlain c .zucEea3
  | 0x24 => decodePlain c .zucEia3
  | 0x31 => decodePlain c .comp128V1
  | 0x32 => decodePlain c .comp128V2
  | 0x33 => decodePlain c .comp128V3
  | 0x41 => decodePlain c .keccakP1600
  | 0xF0 => .ok (.ctxClear c)
  | _ => .error .undefinedOp

/-- The command a word stands for, or the reason it is illegal (R113, R114). -/
def decode (w : Word) : Except DecodeError Instr :=
  if rsvField w = 0 then decodeOp (opField w) (ctxField w) else .error .reservedBits

/-- The OP value of a command (R113). -/
def encodeOp : Instr → BitVec 8
  | .nop => 0x00
  | .kasumiKs _ => 0x01
  | .kasumiEnc _ => 0x02
  | .kasumiF8 => 0x03
  | .kasumiF9 => 0x04
  | .snow3gInit _ => 0x11
  | .snow3gGenks _ => 0x12
  | .snow3gUea2 => 0x13
  | .snow3gUia2 => 0x14
  | .zucInit _ => 0x21
  | .zucGenks _ => 0x22
  | .zucEea3 => 0x23
  | .zucEia3 => 0x24
  | .comp128V1 => 0x31
  | .comp128V2 => 0x32
  | .comp128V3 => 0x33
  | .keccakP1600 => 0x41
  | .ctxClear _ => 0xF0

/-- The command word of a command (R111): RSV = 0, CTX the slot (0 for a command without one), OP. -/
def encode (i : Instr) : Word :=
  (0 : BitVec 20) ++ BitVec.ofNat 4 (i.slot?.getD 0) ++ encodeOp i

/-- The command of the opcode table's bits: a command is one 32-bit word (R110), whose bits the table
numbers as the word does; every bit above `nbits` is 0. -/
def decodeTableWord (nbits w : Nat) : Option Instr :=
  match decode (BitVec.ofNat 32 (w % 2 ^ nbits)) with
  | .ok i => some i
  | .error _ => none

end Sys2Proof
end

