-- ==== Sys2Proof/Machine/Bits.lean ====
section
/-! DEFINITION. Bit strings, byte order and table look-up: the helpers every family shares.
A bit string is a list of bits, first bit first; as a number its first bit is the most significant
(00_scope.md R13). Words are big-endian (20_memory.md R83). -/

namespace Sys2Proof.Machine

/-- The number a bit string stands for, first bit most significant (R13). -/
def bitsToNat (bs : List Bool) : Nat :=
  bs.foldl (fun n b => 2 * n + b.toNat) 0

/-- The bit string of a word, most significant bit first (R13). -/
def wordBits {w : Nat} (v : BitVec w) : List Bool :=
  (List.range w).map (fun k => v.getLsbD (w - 1 - k))

/-- The first `n` blocks of `w` bits of a bit string, each as a number (R13). -/
def bitBlocks (w : Nat) : Nat → List Bool → List (BitVec w)
  | 0, _ => []
  | n + 1, bs => BitVec.ofNat w (bitsToNat (bs.take w)) :: bitBlocks w n (bs.drop w)

/-- The four bytes of a word, byte 0 in bits 31:24 (R83). -/
def wordBytes (v : Word) : List Byte :=
  [v.extractLsb' 24 8, v.extractLsb' 16 8, v.extractLsb' 8 8, v.extractLsb' 0 8]

/-- The eight bytes of a 64-bit block, most significant first. -/
def dwordBytes (v : DWord) : List Byte :=
  wordBytes (v.extractLsb' 32 32) ++ wordBytes (v.extractLsb' 0 32)

/-- The word of four bytes, the first in bits 31:24 (R83). -/
def wordOfBytes (b0 b1 b2 b3 : Byte) : Word := b0 ++ b1 ++ b2 ++ b3

/-- A table printed in rows of 16, as the spec prints it: entry `16 r + j` is in row `r`, column `j`;
past its end 0 (log entry 14). -/
def tableAt (rows : List (List Nat)) (i : Nat) : Nat :=
  (rows.getD (i / 16) []).getD (i % 16) 0

end Sys2Proof.Machine
end

