-- ==== Sys2Proof/Config.lean ====
section
/-! DEFINITION. What an implementation fixes (00_scope.md R8): the parameters a model takes, and the free
values the spec leaves to no rule. An `opaque` constant has no body: nothing can evaluate it, so a
statement about it holds for every value. -/

namespace Sys2Proof

/-- The two variants whose core is OPEN (43_comp128.md R297). -/
inductive Comp128Variant where
  | v2
  | v3
  deriving DecidableEq, Repr

/-- The parameter `COMP128V1_T0` to `COMP128V1_T4` (43_comp128.md R294), each table in rows of 16 entries
as the spec prints it. -/
structure Comp128Tables where
  t0 : List (List Nat)
  t1 : List (List Nat)
  t2 : List (List Nat)
  t3 : List (List Nat)
  t4 : List (List Nat)
  deriving DecidableEq, Repr

/-- The table has its stated number of rows of 16 and its entries their stated width (43_comp128.md
R294). -/
def Comp128Tables.legalTable (rows bound : Nat) (t : List (List Nat)) : Bool :=
  t.length == rows && t.all (fun r => r.length == 16 && r.all (fun v => decide (v < bound)))

/-- `T0` 512 entries of 8 bits, `T1` 256 of 7, `T2` 128 of 6, `T3` 64 of 5, `T4` 32 of 4 (R294). -/
def Comp128Tables.legal (t : Comp128Tables) : Bool :=
  Comp128Tables.legalTable 32 256 t.t0 && Comp128Tables.legalTable 16 128 t.t1 &&
  Comp128Tables.legalTable 8 64 t.t2 && Comp128Tables.legalTable 4 32 t.t3 &&
  Comp128Tables.legalTable 2 16 t.t4

/-- The instance parameters of R8 that are plain data: they are constant for an instance, also across
reset (10_state.md R35). Log entry 7. -/
structure Params where
  /-- `DBUF_BYTES`. -/
  dbufBytes : Nat
  /-- `N_CTX`. -/
  nCtx : Nat
  /-- `COMP128V1_T0..T4`. -/
  tables : Comp128Tables
  deriving DecidableEq, Repr

/-- The values R8 admits: `DBUF_BYTES` any multiple of 8 from 8 to 61440, `N_CTX` 1 to 16. -/
def Params.legal (p : Params) : Bool :=
  p.dbufBytes % 8 == 0 && decide (8 ≤ p.dbufBytes) && decide (p.dbufBytes ≤ 61440) &&
  decide (1 ≤ p.nCtx) && decide (p.nCtx ≤ 16) && p.tables.legal

/-- DESIGN CHOICE (log entry 5): the byte STATE or DBUF holds at a window offset after a reset, before
anything writes it; one draw per byte at each reset (10_state.md R59, 93_implementation_defined.md).
Arguments: the draw's number, the window offset. -/
opaque Config.resetByte : Nat → Nat → Byte

/-- `COMP128V23_CORE`, OPEN (43_comp128.md R297): from the variant, Ki and RAND (byte 0 most
significant) to SRES and Kc before masking. Log entry 9. -/
opaque Config.comp128v23Core : Comp128Variant → BitVec 128 → BitVec 128 → Word × DWord

/-- `COMP128V2_KC_ZERO_MASK`, OPEN (43_comp128.md R298), `Kc[0]` most significant. Log entry 10. -/
opaque Config.comp128v2KcZeroMask : DWord

/-- The platform's choice of the window's place, in units of 0x10000. Log entry 11. -/
opaque Config.basePage : Nat

/-- `BASE` (R8, 20_memory.md R92): OPEN, a multiple of 0x10000. Log entry 11. -/
def Config.base : Nat := 0x10000 * Config.basePage

end Sys2Proof
end

