-- ==== Sys2Proof/Machine/State.lean ====
section
/-! DEFINITION. The machine's state as plain data: every register, buffer and context record of
10_state.md, the fault record of R58, the instance parameters of 00_scope.md R8, and the events the
outside world has in store for the block. The registers ID and CFG, which are hard-wired (R31, R35),
and the interrupt output IRQ (R56) are computed, not stored. -/

namespace Sys2Proof.Machine

/-! ## Registers -/

/-- The error codes of 60_exceptions.md R361; the codes 5 to 15 are never written. -/
inductive ErrCode where
  | none
  | illegal
  | param
  | length
  | noctx
  deriving DecidableEq, Repr

/-- STATUS (R33): its fields; every other bit reads 0. -/
structure Status where
  busy : Bool
  done : Bool
  err : Bool
  errcode : ErrCode
  deriving DecidableEq, Repr

/-- Four 32-bit registers that hold 16 bytes: KEY0 to KEY3, IV0 to IV3, RES0 to RES3 (R42 to R44). -/
structure Quad where
  w0 : Word
  w1 : Word
  w2 : Word
  w3 : Word
  deriving DecidableEq, Repr

/-- The registers of the window (R30). `state k` and `dbuf k` are the words at byte offset `4 k` of the
STATE and DBUF buffers. -/
inductive Reg where
  | id
  | cmd
  | status
  | irqen
  | length
  | count
  | bearer
  | direction
  | fresh
  | nwords
  | cfg
  | key (i : Fin 4)
  | iv (i : Fin 4)
  | res (i : Fin 4)
  | state (k : Nat)
  | dbuf (k : Nat)
  deriving DecidableEq, Repr

/-! ## Memory -/

/-- The written bytes of STATE and DBUF, keyed by window offset (STATE[i] at 0x0100 + i, DBUF[i] at
0x1000 + i, R45, R46), in one canonical form: offsets strictly rising. An unlisted offset has no value
of its own: what it reads as is the free value of the last reset's draw (log entry 5). -/
abbrev Memory := List Host.Cell

/-- The canonical form: offsets strictly rising. -/
def Memory.wf : Memory → Bool
  | [] => true
  | [_] => true
  | (a, _) :: (b, y) :: m => decide (a < b) && Memory.wf ((b, y) :: m)

/-! ## Context records (R50 to R53) -/

/-- The eight 16-bit subkeys of one KASUMI round (R51). -/
structure RoundKeys where
  kl1 : HWord
  kl2 : HWord
  ko1 : HWord
  ko2 : HWord
  ko3 : HWord
  ki1 : HWord
  ki2 : HWord
  ki3 : HWord
  deriving DecidableEq, Repr

/-- The subkeys of rounds 1 to 8 (R51). -/
structure RoundKeySet where
  r1 : RoundKeys
  r2 : RoundKeys
  r3 : RoundKeys
  r4 : RoundKeys
  r5 : RoundKeys
  r6 : RoundKeys
  r7 : RoundKeys
  r8 : RoundKeys
  deriving DecidableEq, Repr

/-- The sixteen cells `s0` to `s15` of an LFSR; `s0` is the oldest (R52, R53). -/
structure Lfsr (w : Nat) where
  s0 : BitVec w
  s1 : BitVec w
  s2 : BitVec w
  s3 : BitVec w
  s4 : BitVec w
  s5 : BitVec w
  s6 : BitVec w
  s7 : BitVec w
  s8 : BitVec w
  s9 : BitVec w
  s10 : BitVec w
  s11 : BitVec w
  s12 : BitVec w
  s13 : BitVec w
  s14 : BitVec w
  s15 : BitVec w
  deriving DecidableEq, Repr

/-- The SNOW 3G generator: LFSR and FSM registers (R52). -/
structure SnowGen where
  lfsr : Lfsr 32
  r1 : Word
  r2 : Word
  r3 : Word
  deriving DecidableEq, Repr

/-- The ZUC generator: LFSR of 31-bit cells and the memory registers of F (R53). -/
structure ZucGen where
  lfsr : Lfsr 31
  r1 : Word
  r2 : Word
  deriving DecidableEq, Repr

/-- `ctx.KAS[c]` (R51). -/
structure KasRecord where
  valid : Bool
  keys : RoundKeySet
  deriving DecidableEq, Repr

/-- `ctx.SNOW[c]` (R52). -/
structure SnowRecord where
  valid : Bool
  gen : SnowGen
  deriving DecidableEq, Repr

/-- `ctx.ZUC[c]` (R53). -/
structure ZucRecord where
  valid : Bool
  gen : ZucGen
  deriving DecidableEq, Repr

/-- One context slot (R50). -/
structure Ctx where
  kas : KasRecord
  snow : SnowRecord
  zuc : ZucRecord
  deriving DecidableEq, Repr

/-! ## The host's side -/

/-- What a host access asks for. The block takes 32-bit accesses only (20_memory.md R82); the narrower
kinds are the ones it answers with a bus error (log entry 18). -/
inductive AccessKind where
  | read32
  | write32
  | read16
  | write16
  | read8
  | write8
  deriving DecidableEq, Repr

/-- One host access at bus address `BASE + offset`; `value` is the data of a write. -/
structure Access where
  kind : AccessKind
  offset : BitVec 16
  value : Word
  deriving DecidableEq, Repr

/-- What happens next at the block (20_memory.md R80, R94, 70_reset_and_hazards.md R400): the port
receives an access, the engine gets its turn, or the platform asserts reset (log entries 1, 19, 20). -/
inductive Event where
  | access (a : Access)
  | engine
  | reset
  deriving DecidableEq, Repr

/-- An entry of the fault record: `BusError(offset, kind)` (20_memory.md R84). -/
structure BusError where
  offset : BitVec 16
  kind : AccessKind
  deriving DecidableEq, Repr

/-- What the port answered to the last host access. The model's own (log entry 13). -/
inductive Response where
  /-- No access has been answered yet. -/
  | none
  /-- A read's data. -/
  | data (v : Word)
  /-- A write was taken. -/
  | done
  /-- A bus error response (20_memory.md R84). -/
  | busError
  deriving DecidableEq, Repr

/-! ## Outcomes -/

/-- Why the machine stops. -/
inductive Fault where
  /-- Raised by `step` when a host access is next and the fault record is not empty: the model does not
  let the host, or any other host (log entry 3), continue past a bus error (20_memory.md R84). Safe: the
  model stops where a host might go on. -/
  | hostStopped
  /-- Raised by `hostedStep` only, never by `step`: the next access would break a duty of
  60_exceptions.md R376, so it is no move of the host's. Safe: the model stops where a host that breaks
  its duty would go on. -/
  | dutyBroken
  deriving DecidableEq, Repr

/-- Why an instruction has no meaning. -/
inductive Refusal where
  /-- Raised by a refused arm of `exec` only. No arm is refused, so nothing raises it. Safe: a refused
  instruction has no next state. -/
  | notModelled (mnemonic : String)
  deriving DecidableEq, Repr

/-! ## The state -/

/-- The state of the block. Each field names its rule. -/
structure State where
  /-- R8: DBUF_BYTES, N_CTX and the COMP128-1 tables, constant. -/
  params : Params
  /-- R32 -/
  cmd : Word
  /-- R33 -/
  status : Status
  /-- IRQEN.DONEIE, R34 -/
  doneie : Bool
  /-- R36 -/
  length : Word
  /-- R37 -/
  count : Word
  /-- R38 -/
  bearer : Word
  /-- R39 -/
  direction : Word
  /-- R40 -/
  fresh : Word
  /-- R41 -/
  nwords : Word
  /-- KEY0 to KEY3, R42 -/
  key : Quad
  /-- IV0 to IV3, R43 -/
  iv : Quad
  /-- RES0 to RES3, R44 -/
  res : Quad
  /-- The written bytes of STATE and DBUF, R45, R46 -/
  mem : Memory
  /-- The context slots 0 to N_CTX − 1, R50 -/
  ctx : List Ctx
  /-- The fault record, R58 -/
  faults : List BusError
  /-- The model's own: the number of the draw of unspecified buffer bytes (log entry 5). -/
  draw : Nat
  /-- The model's own: the events in store, oldest first (log entry 1). -/
  bus : List Event
  /-- The model's own: the port's last answer (log entry 13). -/
  resp : Response
  deriving DecidableEq, Repr

/-! ## Reset -/

/-- STATUS after reset (R59). -/
def Status.reset : Status := { busy := false, done := false, err := false, errcode := .none }

/-- Four registers at 0. -/
def Quad.zero : Quad := { w0 := 0, w1 := 0, w2 := 0, w3 := 0 }

/-- Eight subkeys at 0. -/
def RoundKeys.zero : RoundKeys :=
  { kl1 := 0, kl2 := 0, ko1 := 0, ko2 := 0, ko3 := 0, ki1 := 0, ki2 := 0, ki3 := 0 }

/-- 64 subkeys at 0. -/
def RoundKeySet.zero : RoundKeySet :=
  { r1 := .zero, r2 := .zero, r3 := .zero, r4 := .zero,
    r5 := .zero, r6 := .zero, r7 := .zero, r8 := .zero }

/-- Sixteen cells at 0. -/
def Lfsr.zero (w : Nat) : Lfsr w :=
  { s0 := 0, s1 := 0, s2 := 0, s3 := 0, s4 := 0, s5 := 0, s6 := 0, s7 := 0,
    s8 := 0, s9 := 0, s10 := 0, s11 := 0, s12 := 0, s13 := 0, s14 := 0, s15 := 0 }

/-- A cleared KASUMI record: V = 0, every subkey 0 (45_control.md R341). -/
def KasRecord.clear : KasRecord := { valid := false, keys := .zero }

/-- A cleared SNOW 3G record: V = 0, every cell and register 0 (45_control.md R341). -/
def SnowRecord.clear : SnowRecord :=
  { valid := false, gen := { lfsr := .zero 32, r1 := 0, r2 := 0, r3 := 0 } }

/-- A cleared ZUC record: V = 0, every cell and register 0 (45_control.md R341). -/
def ZucRecord.clear : ZucRecord :=
  { valid := false, gen := { lfsr := .zero 31, r1 := 0, r2 := 0 } }

/-- A slot whose three records are cleared. After reset V = 0 (R59); that the other fields are 0 then is
a DESIGN CHOICE (log entry 6), after CTX.CLEAR it is R341. -/
def Ctx.clear : Ctx := { kas := .clear, snow := .clear, zuc := .clear }

/-- The block after a reset (R59, 70_reset_and_hazards.md R400), for an instance with parameters `p` and
the reset's draw number: every register at its stated value, no valid record, the buffers unspecified
(nothing listed), the engine idle, no fault recorded, nothing in store. -/
def State.afterReset (p : Params) (draw : Nat) : State :=
  { params := p
    cmd := 0
    status := .reset
    doneie := false
    length := 0
    count := 0
    bearer := 0
    direction := 0
    fresh := 0
    nwords := 0
    key := .zero
    iv := .zero
    res := .zero
    mem := []
    ctx := List.replicate p.nCtx .clear
    faults := []
    draw := draw
    bus := []
    resp := .none }

/-- The default parameters of R8: DBUF_BYTES 8192, N_CTX 1, the candidate tables (log entries 7, 8). -/
def defaultParams : Params :=
  { dbufBytes := 8192, nCtx := 1, tables := comp128CandidateTables }

/-- The machine right after reset, with the default parameters (R59). -/
def State.reset : State := State.afterReset defaultParams 0

end Sys2Proof.Machine
end

