-- ==== Sys2Proof/Machine/Flags.lean ====
section
/-! DEFINITION. The status flags (10_state.md R33, R57): how acceptance, completion, an error and a host
write change STATUS, the word STATUS reads as, and the interrupt output. No command sets a flag by what
it computes. -/

namespace Sys2Proof.Machine

/-- The code an error is written as in `STATUS.ERRCODE` (60_exceptions.md R361). -/
def ErrCode.code : ErrCode → BitVec 4
  | .none => 0
  | .illegal => 1
  | .param => 2
  | .length => 3
  | .noctx => 4

/-- One bit as a one-bit field. -/
def bit (b : Bool) : BitVec 1 := if b then 1 else 0

/-- The word STATUS reads as (R33): ERRCODE in bits 7:4, ERR bit 2, DONE bit 1, BUSY bit 0. -/
def Status.word (st : Status) : Word :=
  (0 : BitVec 24) ++ st.errcode.code ++ (0 : BitVec 1) ++ bit st.err ++ bit st.done ++ bit st.busy

/-- Acceptance (30_encoding.md R115): BUSY = 1, everything else 0. -/
def Status.accepted : Status := { busy := true, done := false, err := false, errcode := .none }

/-- The end of an engine step without error (R116): BUSY ← 0, DONE ← 1. -/
def Status.completed (st : Status) : Status := { st with busy := false, done := true }

/-- The end of an engine step with error `e` (R116, 60_exceptions.md R365): ERR ← 1, ERRCODE ← `e`,
BUSY ← 0, DONE ← 1. -/
def Status.failed (st : Status) (e : ErrCode) : Status :=
  { st with busy := false, done := true, err := true, errcode := e }

/-- A host write to STATUS (R33): bit 1 clears DONE, bit 2 clears ERR and ERRCODE. -/
def Status.writeW1C (st : Status) (v : Word) : Status :=
  { busy := st.busy
    done := st.done && !v.getLsbD 1
    err := st.err && !v.getLsbD 2
    errcode := if v.getLsbD 2 then .none else st.errcode }

/-- The interrupt output, a level (R56): `DONEIE & DONE`. -/
def State.irq (s : State) : Bool := s.doneie && s.status.done

end Sys2Proof.Machine
end

