-- ==== Sys2Proof/Machine/Ops.lean ====
section
/-! DEFINITION. The named operations over memory, registers and context slots; the host's access of the
window (20_memory.md R84 to R86) with acceptance (30_encoding.md R115); the two ends of an engine step,
completion and error (R116, 60_exceptions.md R365), which are this block's whole "exception" entry
(R367) and whose return is the host's acknowledgement (R368); and reset (70_reset_and_hazards.md R400). -/

namespace Sys2Proof.Machine

/-! ## Memory: bytes of STATE and DBUF -/

/-- The byte listed at an offset, if any. -/
def Memory.get? : Memory → Nat → Option Byte
  | [], _ => none
  | (k, v) :: m, a => if k = a then some v else Memory.get? m a

/-- List byte `b` at offset `a`, keeping the offsets strictly rising. -/
def Memory.write : Memory → Nat → Byte → Memory
  | [], a, b => [(a, b)]
  | (k, v) :: m, a, b =>
    if a < k then (a, b) :: (k, v) :: m
    else if a = k then (a, b) :: m
    else (k, v) :: Memory.write m a b

/-- The byte an offset holds. A byte nothing has written since reset holds the reset's draw
(10_state.md R45, R46, R59; log entry 5). -/
def readByte (s : State) (a : Nat) : Byte :=
  (s.mem.get? a).getD (Config.resetByte s.draw a)

/-- Store one byte. -/
def writeByte (s : State) (a : Nat) (b : Byte) : State :=
  { s with mem := s.mem.write a b }

/-- The `n` bytes from offset `a` up. -/
def readBytes (s : State) (a n : Nat) : List Byte :=
  (List.range n).map (fun i => readByte s (a + i))

/-- Store bytes from offset `a` up. -/
def writeBytes (s : State) : Nat → List Byte → State
  | _, [] => s
  | a, b :: bs => writeBytes (writeByte s a b) (a + 1) bs

/-- The word of four bytes from offset `a`, big-endian (20_memory.md R83). -/
def readWord (s : State) (a : Nat) : Word :=
  wordOfBytes (readByte s a) (readByte s (a + 1)) (readByte s (a + 2)) (readByte s (a + 3))

/-- Store a word's four bytes from offset `a`, big-endian (R83). -/
def writeWord (s : State) (a : Nat) (v : Word) : State := writeBytes s a (wordBytes v)

/-- Window offset of STATE[0] (10_state.md R45). -/
def stateBase : Nat := 0x0100

/-- Window offset of DBUF[0] (R46). -/
def dbufBase : Nat := 0x1000

/-! ## Context slots -/

/-- Slot `c` (10_state.md R50). No command reads a slot from `N_CTX` up (60_exceptions.md R362; log
entry 15). -/
def State.slot (s : State) (c : Nat) : Ctx := s.ctx.getD c .clear

/-- Replace slot `c`. -/
def setSlot (s : State) (c : Nat) (x : Ctx) : State := { s with ctx := s.ctx.set c x }

/-- Replace `ctx.KAS[c]` (R51). -/
def setKas (s : State) (c : Nat) (r : KasRecord) : State :=
  setSlot s c { s.slot c with kas := r }

/-- Replace `ctx.SNOW[c]` (R52). -/
def setSnow (s : State) (c : Nat) (r : SnowRecord) : State :=
  setSlot s c { s.slot c with snow := r }

/-- Replace `ctx.ZUC[c]` (R53). -/
def setZuc (s : State) (c : Nat) (r : ZucRecord) : State :=
  setSlot s c { s.slot c with zuc := r }

/-! ## LFSR cells -/

/-- The LFSR's shift: `s(i) ← s(i+1)`, `s15 ← v` (41_snow3g.md R190, 42_zuc.md R240). -/
def Lfsr.shift {w : Nat} (l : Lfsr w) (v : BitVec w) : Lfsr w :=
  { s0 := l.s1, s1 := l.s2, s2 := l.s3, s3 := l.s4, s4 := l.s5, s5 := l.s6, s6 := l.s7,
    s7 := l.s8, s8 := l.s9, s9 := l.s10, s10 := l.s11, s11 := l.s12, s12 := l.s13,
    s13 := l.s14, s14 := l.s15, s15 := v }

/-! ## Results (10_state.md R44) -/

/-- Write RES0. -/
def setRes0 (s : State) (v : Word) : State := { s with res := { s.res with w0 := v } }

/-- Write RES1. -/
def setRes1 (s : State) (v : Word) : State := { s with res := { s.res with w1 := v } }

/-- Write RES2. -/
def setRes2 (s : State) (v : Word) : State := { s with res := { s.res with w2 := v } }

/-! ## The ends of an engine step -/

/-- The engine step ends without error (30_encoding.md R116). -/
def complete (s : State) : State := { s with status := s.status.completed }

/-- The engine step ends with error `e`: STATUS alone is written (60_exceptions.md R365). -/
def raiseError (e : ErrCode) (s : State) : State := { s with status := s.status.failed e }

/-- The engine step of a decoded command (R116): `e` is what Check reported, `perform` the command's
own effect. -/
def engineStep (e : ErrCode) (perform : State → State) (s : State) :
    Host.Outcome State Fault Refusal :=
  if e = .none then .next (complete (perform s)) else .next (raiseError e s)

/-- The engine step of an illegal command word (30_encoding.md R114). -/
def illegalCommand (s : State) : State := raiseError .illegal s

/-- The word the engine takes as its command (R116). The engine fetches nothing (10_state.md R49). -/
def fetchCommand (s : State) : Word := s.cmd

/-! ## The register window (10_state.md R30 to R47) -/

/-- One of four like registers. -/
def Quad.get (q : Quad) (i : Fin 4) : Word :=
  match i with
  | 0 => q.w0
  | 1 => q.w1
  | 2 => q.w2
  | 3 => q.w3

/-- Replace one of four like registers. -/
def Quad.set (q : Quad) (i : Fin 4) (v : Word) : Quad :=
  match i with
  | 0 => { q with w0 := v }
  | 1 => { q with w1 := v }
  | 2 => { q with w2 := v }
  | 3 => { q with w3 := v }

/-- The words of STATE and DBUF in the window (R45, R46). -/
def Reg.ofBufferOffset (p : Params) (off : Nat) : Option Reg :=
  if stateBase ≤ off ∧ off < stateBase + 200 then some (.state ((off - stateBase) / 4))
  else if dbufBase ≤ off ∧ off < dbufBase + p.dbufBytes then some (.dbuf ((off - dbufBase) / 4))
  else none

/-- The register at an offset that is a multiple of 4 (R30); none where the offset is unmapped (R47). -/
def Reg.ofOffset (p : Params) (off : Nat) : Option Reg :=
  match off with
  | 0x0000 => some .id
  | 0x0004 => some .cmd
  | 0x0008 => some .status
  | 0x000C => some .irqen
  | 0x0010 => some .length
  | 0x0014 => some .count
  | 0x0018 => some .bearer
  | 0x001C => some .direction
  | 0x0020 => some .fresh
  | 0x0024 => some .nwords
  | 0x0028 => some .cfg
  | 0x0030 => some (.key 0)
  | 0x0034 => some (.key 1)
  | 0x0038 => some (.key 2)
  | 0x003C => some (.key 3)
  | 0x0040 => some (.iv 0)
  | 0x0044 => some (.iv 1)
  | 0x0048 => some (.iv 2)
  | 0x004C => some (.iv 3)
  | 0x0050 => some (.res 0)
  | 0x0054 => some (.res 1)
  | 0x0058 => some (.res 2)
  | 0x005C => some (.res 3)
  | n => Reg.ofBufferOffset p n

/-- ID (R31): the ASCII characters "CMK1". -/
def idWord : Word := 0x434D4B31

/-- CFG (R35): bits 31:16 `DBUF_BYTES / 8`, bits 15:4 zero, bits 3:0 `N_CTX − 1`. -/
def cfgWord (p : Params) : Word :=
  BitVec.ofNat 16 (p.dbufBytes / 8) ++ (0 : BitVec 12) ++ BitVec.ofNat 4 (p.nCtx - 1)

/-- What a read of a register returns (R31 to R46). KEY reads 0 (R42). -/
def readReg (s : State) (r : Reg) : Word :=
  match r with
  | .id => idWord
  | .cmd => s.cmd
  | .status => s.status.word
  | .irqen => if s.doneie then 1 else 0
  | .length => s.length
  | .count => s.count
  | .bearer => s.bearer
  | .direction => s.direction
  | .fresh => s.fresh
  | .nwords => s.nwords
  | .cfg => cfgWord s.params
  | .key _ => 0
  | .iv i => s.iv.get i
  | .res i => s.res.get i
  | .state k => readWord s (stateBase + 4 * k)
  | .dbuf k => readWord s (dbufBase + 4 * k)

/-- Acceptance of a command word (30_encoding.md R115): it is stored undecoded and BUSY is set. -/
def acceptCommand (s : State) (w : Word) : State := { s with cmd := w, status := .accepted }

/-- What a write of a register does (R31 to R46, 20_memory.md R85): ID, CFG and RES ignore it, STATUS
clears its W1C bits, CMD launches, IRQEN keeps bit 0, every other register stores the value. -/
def writeReg (s : State) (r : Reg) (v : Word) : State :=
  match r with
  | .id => s
  | .cmd => acceptCommand s v
  | .status => { s with status := s.status.writeW1C v }
  | .irqen => { s with doneie := v.getLsbD 0 }
  | .length => { s with length := v }
  | .count => { s with count := v }
  | .bearer => { s with bearer := v }
  | .direction => { s with direction := v }
  | .fresh => { s with fresh := v }
  | .nwords => { s with nwords := v }
  | .cfg => s
  | .key i => { s with key := s.key.set i v }
  | .iv i => { s with iv := s.iv.set i v }
  | .res _ => s
  | .state k => writeWord s (stateBase + 4 * k) v
  | .dbuf k => writeWord s (dbufBase + 4 * k) v

/-- The accesses allowed while STATUS.BUSY = 1 (20_memory.md R86). -/
def allowedWhileBusy (kind : AccessKind) (r : Reg) : Bool :=
  match kind, r with
  | .read32, .id => true
  | .read32, .status => true
  | .read32, .cfg => true
  | .read32, .irqen => true
  | .write32, .irqen => true
  | _, _ => false

/-- An access is 32 bits wide (R82). -/
def AccessKind.isWord : AccessKind → Bool
  | .read32 => true
  | .write32 => true
  | .read16 => false
  | .write16 => false
  | .read8 => false
  | .write8 => false

/-- The register an access reaches, or none where it breaks a bus rule: width and alignment (R82), an
unmapped offset (10_state.md R47), the busy window (R86). One bus error at most (60_exceptions.md R364). -/
def accessTarget (a : Access) (s : State) : Option Reg :=
  if a.kind.isWord ∧ a.offset.toNat % 4 = 0 then
    match Reg.ofOffset s.params a.offset.toNat with
    | none => none
    | some r => if s.status.busy ∧ ¬ allowedWhileBusy a.kind r then none else some r
  else none

/-- A bus error response (R84): the access changes no state of the engine; the model records it. -/
def busError (a : Access) (s : State) : State :=
  { s with faults := s.faults ++ [{ offset := a.offset, kind := a.kind }], resp := .busError }

/-- An access that reaches a register: a read answers its value, a write has the register's effect. -/
def performAccess (kind : AccessKind) (r : Reg) (v : Word) (s : State) : State :=
  match kind with
  | .write32 => { writeReg s r v with resp := .done }
  | _ => { s with resp := .data (readReg s r) }

/-- One host access of the window (R84), one atomic event (R87). -/
def hostAccess (a : Access) (s : State) : State :=
  match accessTarget a s with
  | none => busError a s
  | some r => performAccess a.kind r a.value s

/-- The port's turn: the model does not let the host continue past a recorded bus error (R84). R84 stops
"the host"; whether another host's accesses (R80) go on after it is open. DESIGN CHOICE (log entry 3): a
recorded bus error stops every later access, whichever host makes it. Safe: the model stops earlier. -/
def hostTurn (a : Access) (s : State) : Host.Outcome State Fault Refusal :=
  if s.faults = [] then .next (hostAccess a s) else .fault .hostStopped

/-- The events left in store. -/
def setBus (s : State) (es : List Event) : State := { s with bus := es }

/-- Nothing is enabled: the block is idle and stays as it is (60_exceptions.md R375; log entry 2). -/
def idleTurn (s : State) : State := s

/-- The reset event (70_reset_and_hazards.md R400): every piece of state takes its reset value, a command
in flight is discarded, the buffers take a new draw. The parameters are constant (10_state.md R35), the
fault record is never cleared (R58; log entry 4), the events in store stay the outside world's. -/
def resetTurn (s : State) : State :=
  { State.afterReset s.params (s.draw + 1) with faults := s.faults, bus := s.bus }

/-- The access the platform's address decoding delivers for a bus address (R92): one of the window, or
none of this block's. -/
def Access.ofBusAddress (base addr : Nat) (kind : AccessKind) (v : Word) : Option Access :=
  if base ≤ addr ∧ addr < base + 65536 then
    some { kind := kind, offset := BitVec.ofNat 16 (addr - base), value := v }
  else none

end Sys2Proof.Machine
end

