-- ==== Sys2Proof/Machine/Operands.lean ====
section
/-! DEFINITION. The operand forms of the commands (30_encoding.md R112, R117): the slot, the numeric
registers, KEY and IV as words, bytes and numbers, the message in DBUF, the keystream's way back into
DBUF; and the engine's check of them (60_exceptions.md R362). -/

namespace Sys2Proof.Machine

/-! ## KEY and IV (10_state.md R42, R43) -/

/-- Four words as one number, the first word most significant. -/
def Quad.bits (q : Quad) : BitVec 128 := q.w0 ++ q.w1 ++ q.w2 ++ q.w3

/-- The sixteen bytes of four registers: byte `4 i + j` is bits `31−8j : 24−8j` of register `i`. -/
def Quad.bytes (q : Quad) : List Byte :=
  wordBytes q.w0 ++ wordBytes q.w1 ++ wordBytes q.w2 ++ wordBytes q.w3

/-! ## Numeric operands -/

/-- `reg[BEARER][4:0]` (R38). -/
def opBearer (s : State) : BitVec 5 := s.bearer.extractLsb' 0 5

/-- `reg[DIRECTION][0]` (R39). -/
def opDir (s : State) : Bool := s.direction.getLsbD 0

/-- The message length `L` in bits (R36). -/
def opLength (s : State) : Nat := s.length.toNat

/-- The number `n` of keystream words (R41). -/
def opNwords (s : State) : Nat := s.nwords.toNat

/-! ## The message (20_memory.md R88, R89) -/

/-- `DBUF[0 .. ceil_div(L, 8) − 1]`. -/
def messageBytes (s : State) : List Byte := readBytes s dbufBase (ceilDiv (opLength s) 8)

/-- The message bits `MsgBit(0) .. MsgBit(L−1)`: the first is the most significant of DBUF[0] (R89). -/
def messageBits (s : State) : List Bool :=
  ((messageBytes s).flatMap wordBits).take (opLength s)

/-- `MsgBit(i)` as R89 writes it. -/
def msgBit (s : State) (i : Nat) : Bool := (readByte s (dbufBase + i / 8)).getLsbD (7 - i % 8)

/-! ## Applying a keystream (40_kasumi.md R150) -/

/-- One byte of ApplyKeystream: its first `n` bits (at most 8), most significant first, are XORed with
the keystream byte's, the others pass through. -/
def xorLeading (n : Nat) (old ks : Byte) : Byte :=
  old ^^^ (ks &&& ~~~ ((0xFF : Byte) >>> n))

/-- ApplyKeystream on a message's bytes: `bits` message bits remain (R150; log entry 16). -/
def applyBytes : Nat → List Byte → List Byte → List Byte
  | _, [], _ => []
  | _, _ :: _, [] => []
  | bits, d :: ds, k :: ks => xorLeading (min bits 8) d k :: applyBytes (bits - 8) ds ks

/-- `ApplyKeystream(L, KS)` on DBUF, the keystream given as bytes (R150). -/
def applyKeystream (s : State) (ks : List Byte) : State :=
  writeBytes s dbufBase (applyBytes (opLength s) (messageBytes s) ks)

/-- Keystream words to DBUF bytes `4t .. 4t+3`, big-endian (20_memory.md R91). -/
def storeKeystream (s : State) (zs : List Word) : State :=
  writeBytes s dbufBase (zs.flatMap wordBytes)

/-! ## Check (60_exceptions.md R362) -/

/-- The commands that use BEARER (R362). -/
def usesBearer : Instr → Bool
  | .nop => false
  | .kasumiKs _ => false
  | .kasumiEnc _ => false
  | .kasumiF8 => true
  | .kasumiF9 => false
  | .snow3gInit _ => false
  | .snow3gGenks _ => false
  | .snow3gUea2 => true
  | .snow3gUia2 => false
  | .zucInit _ => false
  | .zucGenks _ => false
  | .zucEea3 => true
  | .zucEia3 => true
  | .comp128V1 => false
  | .comp128V2 => false
  | .comp128V3 => false
  | .keccakP1600 => false
  | .ctxClear _ => false

/-- The commands that use DIRECTION, and LENGTH: the six confidentiality and integrity commands (R362). -/
def usesDirection : Instr → Bool
  | .nop => false
  | .kasumiKs _ => false
  | .kasumiEnc _ => false
  | .kasumiF8 => true
  | .kasumiF9 => true
  | .snow3gInit _ => false
  | .snow3gGenks _ => false
  | .snow3gUea2 => true
  | .snow3gUia2 => true
  | .zucInit _ => false
  | .zucGenks _ => false
  | .zucEea3 => true
  | .zucEia3 => true
  | .comp128V1 => false
  | .comp128V2 => false
  | .comp128V3 => false
  | .keccakP1600 => false
  | .ctxClear _ => false

/-- The commands that use LENGTH (R362): the same six. -/
def usesLength (i : Instr) : Bool := usesDirection i

/-- The commands that use NWORDS (R362). -/
def usesNwords : Instr → Bool
  | .nop => false
  | .kasumiKs _ => false
  | .kasumiEnc _ => false
  | .kasumiF8 => false
  | .kasumiF9 => false
  | .snow3gInit _ => false
  | .snow3gGenks _ => true
  | .snow3gUea2 => false
  | .snow3gUia2 => false
  | .zucInit _ => false
  | .zucGenks _ => true
  | .zucEea3 => false
  | .zucEia3 => false
  | .comp128V1 => false
  | .comp128V2 => false
  | .comp128V3 => false
  | .keccakP1600 => false
  | .ctxClear _ => false

/-- The command reads a context record whose V is 0 (R362, step 5). -/
def recordMissing (i : Instr) (s : State) : Bool :=
  match i with
  | .nop => false
  | .kasumiKs _ => false
  | .kasumiEnc c => !(s.slot c).kas.valid
  | .kasumiF8 => false
  | .kasumiF9 => false
  | .snow3gInit _ => false
  | .snow3gGenks c => !(s.slot c).snow.valid
  | .snow3gUea2 => false
  | .snow3gUia2 => false
  | .zucInit _ => false
  | .zucGenks c => !(s.slot c).zuc.valid
  | .zucEea3 => false
  | .zucEia3 => false
  | .comp128V1 => false
  | .comp128V2 => false
  | .comp128V3 => false
  | .keccakP1600 => false
  | .ctxClear _ => false

/-- A "ctx" command names a slot the instance does not have (R362, step 2). -/
def slotMissing (i : Instr) (s : State) : Bool :=
  match i.slot? with
  | some c => decide (s.params.nCtx ≤ c)
  | none => false

/-- Steps 2 to 5 of Check, in the order of R362; step 1, the command word itself, is `decode`. -/
def check (i : Instr) (s : State) : ErrCode :=
  if slotMissing i s then .param
  else if usesBearer i ∧ 31 < s.bearer.toNat then .param
  else if usesDirection i ∧ 1 < s.direction.toNat then .param
  else if usesLength i ∧ 8 * s.params.dbufBytes < opLength s then .length
  else if usesNwords i ∧ s.params.dbufBytes / 4 < opNwords s then .length
  else if recordMissing i s then .noctx
  else .none

/-- `Check(w)` of R362 as a whole. -/
def checkWord (w : Word) (s : State) : ErrCode :=
  match decode w with
  | .error _ => .illegal
  | .ok i => check i s

end Sys2Proof.Machine
end

