-- ==== Sys2Proof/Machine/Comp128.lean ====
section
/-! DEFINITION. COMP128 (43_comp128.md): the COMP128-1 compression over the instance's tables, the OPEN
core of COMP128-2 and COMP128-3, and the meanings of COMP128.V1, COMP128.V2 and COMP128.V3. -/

namespace Sys2Proof.Machine

/-! ## COMP128-1 (R291 to R295). The working buffer is a list of 32 entries `x[0..31]`. -/

/-- Entry `x[i]`. -/
def entry (x : List Nat) (i : Nat) : Nat := x.getD i 0

/-- One pair `(m, n)` of level `j` with table `t = Tj` (R292). -/
def comp128Pair (t : List (List Nat)) (j m n : Nat) (x : List Nat) : List Nat :=
  let y := (entry x m + 2 * entry x n) % 2 ^ (9 - j)
  let z := (2 * entry x m + entry x n) % 2 ^ (9 - j)
  (x.set m (tableAt t y)).set n (tableAt t z)

/-- The pairs `(m, n)` of level `j`, in the order of the loops over `k` and `l` (R292). -/
def comp128Pairs (j : Nat) : List (Nat × Nat) :=
  (List.range (2 ^ j)).flatMap (fun k =>
    (List.range (2 ^ (4 - j))).map (fun l =>
      (l + k * 2 ^ (5 - j), l + k * 2 ^ (5 - j) + 2 ^ (4 - j))))

/-- Level `j` with table `t = Tj` (R292). -/
def comp128Level (t : List (List Nat)) (j : Nat) (x : List Nat) : List Nat :=
  (comp128Pairs j).foldl (fun x p => comp128Pair t j p.1 p.2 x) x

/-- `Compress(x)` (R292): levels 0 to 4. -/
def comp128Compress (ts : Comp128Tables) (x : List Nat) : List Nat :=
  comp128Level ts.t4 4 (comp128Level ts.t3 3 (comp128Level ts.t2 2 (comp128Level ts.t1 1
    (comp128Level ts.t0 0 x))))

/-- The 128-bit string of the 32 nibbles, each most significant bit first (R293). -/
def comp128Bits (x : List Nat) : List Bool := x.flatMap (fun v => wordBits (BitVec.ofNat 4 v))

/-- The permutation between rounds (R293): `x[0..15]` stay, `x[16..31]` are rebuilt. -/
def comp128Permute (x : List Nat) : List Nat :=
  let bits := comp128Bits x
  x.take 16 ++ (List.range 16).map (fun j =>
    bitsToNat ((List.range 8).map (fun k => bits.getD ((8 * j + k) * 17 % 128) false)))

/-- A round's reload and compression: `x[0..15] ← Ki; Compress(x)` (R291, R295). -/
def comp128Round (ts : Comp128Tables) (ki : List Nat) (x : List Nat) : List Nat :=
  comp128Compress ts (ki ++ x.drop 16)

/-- The buffer before round 1: RAND in `x[16..31]` (R291). -/
def comp128Start (rand : List Nat) : List Nat := List.replicate 16 0 ++ rand

/-- The residual after eight rounds, with the permutation after rounds 1 to 7 (R295). -/
def comp128Residual (ts : Comp128Tables) (ki rand : List Nat) : List Nat :=
  comp128Round ts ki
    (iter (fun x => comp128Permute (comp128Round ts ki x)) 7 (comp128Start rand))

/-- `SRES[i]` (R295). -/
def comp128SresByte (x : List Nat) (i : Nat) : Byte :=
  BitVec.ofNat 8 (entry x (2 * i) <<< 4 ||| entry x (2 * i + 1))

/-- `Kc[i]` for `i = 0 .. 5` (R295). -/
def comp128KcByte (x : List Nat) (i : Nat) : Byte :=
  BitVec.ofNat 8 (entry x (2 * i + 18) <<< 6 ||| entry x (2 * i + 19) <<< 2 |||
    entry x (2 * i + 20) >>> 2)

/-- `Kc[6]` (R295). -/
def comp128KcByte6 (x : List Nat) : Byte := BitVec.ofNat 8 (entry x 30 <<< 6 ||| entry x 31 <<< 2)

/-- SRES as a word, byte 0 most significant (R290, R295). -/
def comp128Sres (x : List Nat) : Word :=
  wordOfBytes (comp128SresByte x 0) (comp128SresByte x 1) (comp128SresByte x 2)
    (comp128SresByte x 3)

/-- Kc as a 64-bit word, byte 0 most significant; `Kc[7] = 0` (R295). -/
def comp128Kc (x : List Nat) : DWord :=
  wordOfBytes (comp128KcByte x 0) (comp128KcByte x 1) (comp128KcByte x 2) (comp128KcByte x 3) ++
    wordOfBytes (comp128KcByte x 4) (comp128KcByte x 5) (comp128KcByte6 x) 0

/-- `Comp128v1(Ki, RAND)` (R295). -/
def comp128V1 (ts : Comp128Tables) (ki rand : List Nat) : Word × DWord :=
  let x := comp128Residual ts ki rand
  (comp128Sres x, comp128Kc x)

/-! ## Results (R290) -/

/-- SRES to RES0, Kc to RES1 and RES2; RES3 is not written (R290). -/
def setComp128 (s : State) (r : Word × DWord) : State :=
  setRes2 (setRes1 (setRes0 s r.1) (r.2.extractLsb' 32 32)) (r.2.extractLsb' 0 32)

/-! ## Commands -/

/-- COMP128.V1 (R300). -/
def performComp128V1 (s : State) : State :=
  setComp128 s (comp128V1 s.params.tables (s.key.bytes.map BitVec.toNat)
    (s.iv.bytes.map BitVec.toNat))

/-- COMP128.V1 (R300). -/
def execComp128V1 (s : State) : Host.Outcome State Fault Refusal :=
  engineStep (check .comp128V1 s) performComp128V1 s

/-- SRES and Kc of COMP128-2: the OPEN core, the OPEN mask's bits cleared (R297, R298). -/
def comp128V2 (ki rand : BitVec 128) : Word × DWord :=
  let r := Config.comp128v23Core .v2 ki rand
  (r.1, r.2 &&& ~~~ Config.comp128v2KcZeroMask)

/-- COMP128.V2 (R301). -/
def performComp128V2 (s : State) : State := setComp128 s (comp128V2 s.key.bits s.iv.bits)

/-- COMP128.V2 (R301). -/
def execComp128V2 (s : State) : Host.Outcome State Fault Refusal :=
  engineStep (check .comp128V2 s) performComp128V2 s

/-- SRES and Kc of COMP128-3: the OPEN core, no mask (R297, R298). -/
def comp128V3 (ki rand : BitVec 128) : Word × DWord := Config.comp128v23Core .v3 ki rand

/-- COMP128.V3 (R302). -/
def performComp128V3 (s : State) : State := setComp128 s (comp128V3 s.key.bits s.iv.bits)

/-- COMP128.V3 (R302). -/
def execComp128V3 (s : State) : Host.Outcome State Fault Refusal :=
  engineStep (check .comp128V3 s) performComp128V3 s

end Sys2Proof.Machine
end

