-- ==== Sys2Proof/Machine/Control.lean ====
section
/-! DEFINITION. The control commands (45_control.md): NOP and CTX.CLEAR. -/

namespace Sys2Proof.Machine

/-- NOP (R340): nothing but completion. -/
def execNop (s : State) : Host.Outcome State Fault Refusal := engineStep (check .nop s) id s

/-- CTX.CLEAR (R341): the three records of slot `c` to V = 0 and zeros. -/
def performCtxClear (c : Nat) (s : State) : State :=
  setSlot s c
    { kas := { valid := false, keys := .zero }
      snow := { valid := false, gen := { lfsr := .zero 32, r1 := 0, r2 := 0, r3 := 0 } }
      zuc := { valid := false, gen := { lfsr := .zero 31, r1 := 0, r2 := 0 } } }

/-- CTX.CLEAR (R341). -/
def execCtxClear (c : Nat) (s : State) : Host.Outcome State Fault Refusal :=
  engineStep (check (.ctxClear c) s) (performCtxClear c) s

end Sys2Proof.Machine
end

