-- ==== Sys2Proof/Machine/Kasumi.lean ====
section
/-! DEFINITION. KASUMI, f8 and f9 (40_kasumi.md): tables, key schedule, FI, FO, FL, the block cipher, the
two modes, and the meanings of KASUMI.KS, KASUMI.ENC, KASUMI.F8 and KASUMI.F9. -/

namespace Sys2Proof.Machine

/-! ## Tables -/

/-- S7 (40_kasumi.md R141), in decimal, rows of 16. -/
def s7Rows : List (List Nat) :=
  [[54, 50, 62, 56, 22, 34, 94, 96, 38, 6, 63, 93, 2, 18, 123, 33],
   [55, 113, 39, 114, 21, 67, 65, 12, 47, 73, 46, 27, 25, 111, 124, 81],
   [53, 9, 121, 79, 52, 60, 58, 48, 101, 127, 40, 120, 104, 70, 71, 43],
   [20, 122, 72, 61, 23, 109, 13, 100, 77, 1, 16, 7, 82, 10, 105, 98],
   [117, 116, 76, 11, 89, 106, 0, 125, 118, 99, 86, 69, 30, 57, 126, 87],
   [112, 51, 17, 5, 95, 14, 90, 84, 91, 8, 35, 103, 32, 97, 28, 66],
   [102, 31, 26, 45, 75, 4, 85, 92, 37, 74, 80, 49, 68, 29, 115, 44],
   [64, 107, 108, 24, 110, 83, 36, 78, 42, 19, 15, 41, 88, 119, 59, 3]]

/-- S9 (40_kasumi.md R142), in decimal, rows of 16. -/
def s9RowsLow : List (List Nat) :=
  [[167, 239, 161, 379, 391, 334, 9, 338, 38, 226, 48, 358, 452, 385, 90, 397],
   [183, 253, 147, 331, 415, 340, 51, 362, 306, 500, 262, 82, 216, 159, 356, 177],
   [175, 241, 489, 37, 206, 17, 0, 333, 44, 254, 378, 58, 143, 220, 81, 400],
   [95, 3, 315, 245, 54, 235, 218, 405, 472, 264, 172, 494, 371, 290, 399, 76],
   [165, 197, 395, 121, 257, 480, 423, 212, 240, 28, 462, 176, 406, 507, 288, 223],
   [501, 407, 249, 265, 89, 186, 221, 428, 164, 74, 440, 196, 458, 421, 350, 163],
   [232, 158, 134, 354, 13, 250, 491, 142, 191, 69, 193, 425, 152, 227, 366, 135],
   [344, 300, 276, 242, 437, 320, 113, 278, 11, 243, 87, 317, 36, 93, 496, 27],
   [487, 446, 482, 41, 68, 156, 457, 131, 326, 403, 339, 20, 39, 115, 442, 124],
   [475, 384, 508, 53, 112, 170, 479, 151, 126, 169, 73, 268, 279, 321, 168, 364],
   [363, 292, 46, 499, 393, 327, 324, 24, 456, 267, 157, 460, 488, 426, 309, 229],
   [439, 506, 208, 271, 349, 401, 434, 236, 16, 209, 359, 52, 56, 120, 199, 277],
   [465, 416, 252, 287, 246, 6, 83, 305, 420, 345, 153, 502, 65, 61, 244, 282],
   [173, 222, 418, 67, 386, 368, 261, 101, 476, 291, 195, 430, 49, 79, 166, 330],
   [280, 383, 373, 128, 382, 408, 155, 495, 367, 388, 274, 107, 459, 417, 62, 454],
   [132, 225, 203, 316, 234, 14, 301, 91, 503, 286, 424, 211, 347, 307, 140, 374]]

/-- S9 (40_kasumi.md R142), entries 256 to 511. -/
def s9RowsHigh : List (List Nat) :=
  [[35, 103, 125, 427, 19, 214, 453, 146, 498, 314, 444, 230, 256, 329, 198, 285],
   [50, 116, 78, 410, 10, 205, 510, 171, 231, 45, 139, 467, 29, 86, 505, 32],
   [72, 26, 342, 150, 313, 490, 431, 238, 411, 325, 149, 473, 40, 119, 174, 355],
   [185, 233, 389, 71, 448, 273, 372, 55, 110, 178, 322, 12, 469, 392, 369, 190],
   [1, 109, 375, 137, 181, 88, 75, 308, 260, 484, 98, 272, 370, 275, 412, 111],
   [336, 318, 4, 504, 492, 259, 304, 77, 337, 435, 21, 357, 303, 332, 483, 18],
   [47, 85, 25, 497, 474, 289, 100, 269, 296, 478, 270, 106, 31, 104, 433, 84],
   [414, 486, 394, 96, 99, 154, 511, 148, 413, 361, 409, 255, 162, 215, 302, 201],
   [266, 351, 343, 144, 441, 365, 108, 298, 251, 34, 182, 509, 138, 210, 335, 133],
   [311, 352, 328, 141, 396, 346, 123, 319, 450, 281, 429, 228, 443, 481, 92, 404],
   [485, 422, 248, 297, 23, 213, 130, 466, 22, 217, 283, 70, 294, 360, 419, 127],
   [312, 377, 7, 468, 194, 2, 117, 295, 463, 258, 224, 447, 247, 187, 80, 398],
   [284, 353, 105, 390, 299, 471, 470, 184, 57, 200, 348, 63, 204, 188, 33, 451],
   [97, 30, 310, 219, 94, 160, 129, 493, 64, 179, 263, 102, 189, 207, 114, 402],
   [438, 477, 387, 122, 192, 42, 381, 5, 145, 118, 180, 449, 293, 323, 136, 380],
   [43, 66, 60, 455, 341, 445, 202, 432, 8, 237, 15, 376, 436, 464, 59, 461]]

/-- S7 (R141). -/
def s7 (x : BitVec 7) : BitVec 7 := BitVec.ofNat 7 (tableAt s7Rows x.toNat)

/-- S9 (R142). -/
def s9 (x : BitVec 9) : BitVec 9 := BitVec.ofNat 9 (tableAt (s9RowsLow ++ s9RowsHigh) x.toNat)

/-- The masking constants C1 to C8 (R143). -/
def kasumiC : List HWord :=
  [0x0123, 0x4567, 0x89AB, 0xCDEF, 0xFEDC, 0xBA98, 0x7654, 0x3210]

/-! ## Key schedule (R144) -/

/-- An index taken as `((n − 1) mod 8) + 1`, less one: the place of `K(n)` among K1 to K8. -/
def kasumiIndex (n : Nat) : Nat := (n - 1) % 8

/-- `K(n)`: key bytes `2(n−1)` and `2(n−1)+1`, the lower byte number more significant. -/
def kasumiK (key : BitVec 128) (n : Nat) : HWord := key.extractLsb' (112 - 16 * kasumiIndex n) 16

/-- `K'(n) = K(n) ⊕ C(n)`. -/
def kasumiK' (key : BitVec 128) (n : Nat) : HWord :=
  kasumiK key n ^^^ kasumiC.getD (kasumiIndex n) 0

/-- The eight subkeys of round `i`. -/
def roundKeys (key : BitVec 128) (i : Nat) : RoundKeys :=
  { kl1 := (kasumiK key i).rotateLeft 1
    kl2 := kasumiK' key (i + 2)
    ko1 := (kasumiK key (i + 1)).rotateLeft 5
    ko2 := (kasumiK key (i + 5)).rotateLeft 8
    ko3 := (kasumiK key (i + 6)).rotateLeft 13
    ki1 := kasumiK' key (i + 4)
    ki2 := kasumiK' key (i + 3)
    ki3 := kasumiK' key (i + 7) }

/-- `KeySchedule(K)` (R144). -/
def keySchedule (key : BitVec 128) : RoundKeySet :=
  { r1 := roundKeys key 1
    r2 := roundKeys key 2
    r3 := roundKeys key 3
    r4 := roundKeys key 4
    r5 := roundKeys key 5
    r6 := roundKeys key 6
    r7 := roundKeys key 7
    r8 := roundKeys key 8 }

/-! ## The round functions -/

/-- The first half of FI before the subkey, and the second half after it: from `(nine, seven)` to
`(S9[nine] ⊕ seven, S7[seven] ⊕ the new nine's low bits)` (R145). -/
def fiHalf (x : BitVec 9 × BitVec 7) : BitVec 9 × BitVec 7 :=
  let nine := s9 x.1 ^^^ x.2.zeroExtend 9
  (nine, s7 x.2 ^^^ nine.extractLsb' 0 7)

/-- FI (R145): the two halves with the subkey's 9 low and 7 high bits between them. -/
def kasumiFI (i ki : HWord) : HWord :=
  let a := fiHalf (i.extractLsb' 7 9, i.extractLsb' 0 7)
  let b := fiHalf (a.1 ^^^ ki.extractLsb' 0 9, a.2 ^^^ ki.extractLsb' 9 7)
  b.2 ++ b.1

/-- One of FO's three steps: `(l, r)` to `(r, FI(l ⊕ KO, KI) ⊕ r)` (R146). -/
def foStep (ko ki : HWord) (x : HWord × HWord) : HWord × HWord :=
  (x.2, kasumiFI (x.1 ^^^ ko) ki ^^^ x.2)

/-- FO (R146). -/
def kasumiFO (k : RoundKeys) (x : Word) : Word :=
  let y := foStep k.ko3 k.ki3 (foStep k.ko2 k.ki2 (foStep k.ko1 k.ki1
    (x.extractLsb' 16 16, x.extractLsb' 0 16)))
  y.1 ++ y.2

/-- FL (R147): the second line uses the new `r`. -/
def kasumiFL (k : RoundKeys) (x : Word) : Word :=
  let l := x.extractLsb' 16 16
  let r := x.extractLsb' 0 16 ^^^ (l &&& k.kl1).rotateLeft 1
  let l' := l ^^^ (r ||| k.kl2).rotateLeft 1
  l' ++ r

/-- A round of odd number: `f = FO(FL(L))`, then `(L, R) ← (R ⊕ f, L)` (R148). -/
def oddRound (k : RoundKeys) (x : Word × Word) : Word × Word :=
  (x.2 ^^^ kasumiFO k (kasumiFL k x.1), x.1)

/-- A round of even number: `f = FL(FO(L))`, then `(L, R) ← (R ⊕ f, L)` (R148). -/
def evenRound (k : RoundKeys) (x : Word × Word) : Word × Word :=
  (x.2 ^^^ kasumiFL k (kasumiFO k x.1), x.1)

/-- Block encryption with a round-subkey set (R148). -/
def kasumi (rk : RoundKeySet) (x : DWord) : DWord :=
  let y := evenRound rk.r8 (oddRound rk.r7 (evenRound rk.r6 (oddRound rk.r5
    (evenRound rk.r4 (oddRound rk.r3 (evenRound rk.r2 (oddRound rk.r1
      (x.extractLsb' 32 32, x.extractLsb' 0 32))))))))
  y.1 ++ y.2

/-- `KASUMI_K(X)` (R148). -/
def kasumiWith (key : BitVec 128) (x : DWord) : DWord := kasumi (keySchedule key) x

/-! ## f8 (R149, R154) -/

/-- KM8: every byte 0x55 (R149). -/
def km8 : BitVec 128 := 0x55555555555555555555555555555555

/-- KM9: every byte 0xAA (R149). -/
def km9 : BitVec 128 := 0xAAAAAAAAAAAAAAAAAAAAAAAAAAAAAAAA

/-- The f8 input block `A = COUNT || BEARER || DIR || 0^26` (R154). -/
def f8Input (count : Word) (bearer : BitVec 5) (dir : Bool) : DWord :=
  count ++ bearer ++ bit dir ++ (0 : BitVec 26)

/-- The f8 modifier `A'` (R154). -/
def f8Modifier (ck : BitVec 128) (count : Word) (bearer : BitVec 5) (dir : Bool) : DWord :=
  kasumiWith (ck ^^^ km8) (f8Input count bearer dir)

/-- The blocks `KSB(n+1) .. KSB(n+B)` after the block `prev = KSB(n)` (R154). -/
def f8Blocks (rk : RoundKeySet) (a' : DWord) : Nat → Nat → DWord → List DWord
  | 0, _, _ => []
  | b + 1, n, prev =>
    let ksb := kasumi rk (a' ^^^ BitVec.ofNat 64 n ^^^ prev)
    ksb :: f8Blocks rk a' b (n + 1) ksb

/-- The f8 keystream of `blocks` blocks (R154). -/
def f8Keystream (ck : BitVec 128) (count : Word) (bearer : BitVec 5) (dir : Bool) (blocks : Nat) :
    List DWord :=
  f8Blocks (keySchedule ck) (f8Modifier ck count bearer dir) blocks 0 0

/-! ## f9 (R157) -/

/-- The number of 64-bit blocks of PS: `ceil_div(L + 66, 64)` (R157). -/
def f9BlockCount (l : Nat) : Nat := ceilDiv (l + 66) 64

/-- The padded string PS of `64 · B` bits (R157). -/
def f9String (count fresh : Word) (dir : Bool) (msg : List Bool) : List Bool :=
  let body := wordBits count ++ wordBits fresh ++ msg ++ [dir, true]
  body ++ List.replicate (64 * f9BlockCount msg.length - body.length) false

/-- One link of the chain: from `(A, Bacc)` with block `PSj` (R157). -/
def f9Link (rk : RoundKeySet) (x : DWord × DWord) (ps : DWord) : DWord × DWord :=
  let a := kasumi rk (x.1 ^^^ ps)
  (a, x.2 ^^^ a)

/-- The accumulator `Bacc` after all blocks (R157). -/
def f9Chain (ik : BitVec 128) (blocks : List DWord) : DWord :=
  (blocks.foldl (f9Link (keySchedule ik)) (0, 0)).2

/-- The f9 MAC (R157). -/
def f9Mac (ik : BitVec 128) (count fresh : Word) (dir : Bool) (msg : List Bool) : Word :=
  let blocks := bitBlocks 64 (f9BlockCount msg.length) (f9String count fresh dir msg)
  (kasumiWith (ik ^^^ km9) (f9Chain ik blocks)).extractLsb' 32 32

/-! ## Commands -/

/-- KASUMI.KS (R152): the key schedule of KEY into `ctx.KAS[c]`. -/
def performKasumiKs (c : Nat) (s : State) : State :=
  setKas s c { valid := true, keys := keySchedule s.key.bits }

/-- KASUMI.KS (R152). -/
def execKasumiKs (c : Nat) (s : State) : Host.Outcome State Fault Refusal :=
  engineStep (check (.kasumiKs c) s) (performKasumiKs c) s

/-- The block operand `IV0 || IV1` (R153). -/
def kasumiBlock (s : State) : DWord := s.iv.w0 ++ s.iv.w1

/-- KASUMI.ENC (R153): the ciphertext of IV0 || IV1 into RES0 and RES1. -/
def performKasumiEnc (c : Nat) (s : State) : State :=
  let y := kasumi (s.slot c).kas.keys (kasumiBlock s)
  setRes1 (setRes0 s (y.extractLsb' 32 32)) (y.extractLsb' 0 32)

/-- KASUMI.ENC (R153). -/
def execKasumiEnc (c : Nat) (s : State) : Host.Outcome State Fault Refusal :=
  engineStep (check (.kasumiEnc c) s) (performKasumiEnc c) s

/-- The keystream KASUMI.F8 applies: `ceil_div(L, 64)` blocks (R155, R156), as bytes. -/
def kasumiF8Bytes (s : State) : List Byte :=
  (f8Keystream s.key.bits s.count (opBearer s) (opDir s) (ceilDiv (opLength s) 64)).flatMap
    dwordBytes

/-- KASUMI.F8 (R156): the f8 keystream onto the message in DBUF. -/
def performKasumiF8 (s : State) : State := applyKeystream s (kasumiF8Bytes s)

/-- KASUMI.F8 (R156). -/
def execKasumiF8 (s : State) : Host.Outcome State Fault Refusal :=
  engineStep (check .kasumiF8 s) performKasumiF8 s

/-- KASUMI.F9 (R158): the f9 MAC of the message into RES0. -/
def performKasumiF9 (s : State) : State :=
  setRes0 s (f9Mac s.key.bits s.count s.fresh (opDir s) (messageBits s))

/-- KASUMI.F9 (R158). -/
def execKasumiF9 (s : State) : Host.Outcome State Fault Refusal :=
  engineStep (check .kasumiF9 s) performKasumiF9 s

end Sys2Proof.Machine
end

