-- ==== Sys2Proof/Machine/Keccak.lean ====
section
/-! DEFINITION. The Keccak-p[1600] permutation (44_keccak.md) and the meaning of KECCAK.P1600. The 25
lanes are a list in the order of R328: lane `A[x][y]` at index `x + 5 y`. -/

namespace Sys2Proof.Machine

/-- Lane `A[x][y]`, the indexes taken mod 5 (R320). -/
def lane (a : List DWord) (x y : Nat) : DWord := a.getD (x % 5 + 5 * (y % 5)) 0

/-- The 25 lanes `f x y`, in index order. -/
def lanes (f : Nat → Nat → DWord) : List DWord :=
  (List.range 25).map (fun i => f (i % 5) (i / 5))

/-- The column parity `C[x]` (R321). -/
def thetaC (a : List DWord) (x : Nat) : DWord :=
  lane a x 0 ^^^ lane a x 1 ^^^ lane a x 2 ^^^ lane a x 3 ^^^ lane a x 4

/-- `D[x] = C[x−1] ⊕ (C[x+1] <<< 1)`, indexes mod 5 (R321). -/
def thetaD (a : List DWord) (x : Nat) : DWord :=
  thetaC a (x + 4) ^^^ (thetaC a (x + 1)).rotateLeft 1

/-- theta (R321). -/
def keccakTheta (a : List DWord) : List DWord := lanes (fun x y => lane a x y ^^^ thetaD a x)

/-- The rotation offsets `r[x][y]`: row `x`, column `y` (R322). -/
def rhoOffsets : List (List Nat) :=
  [[0, 36, 3, 41, 18],
   [1, 44, 10, 45, 2],
   [62, 6, 43, 15, 61],
   [28, 55, 25, 21, 56],
   [27, 20, 39, 8, 14]]

/-- `r[x][y]` (R322). -/
def rhoOffset (x y : Nat) : Nat := (rhoOffsets.getD x []).getD y 0

/-- rho (R322). -/
def keccakRho (a : List DWord) : List DWord :=
  lanes (fun x y => (lane a x y).rotateLeft (rhoOffset x y))

/-- pi: `B[y][(2x + 3y) mod 5] ← A[x][y]` (R323), read from its target: `B[u][v]` comes from the lane
with `y = u` and `2x + 3u = v`, that is `x = u + 3v` (mod 5). -/
def keccakPi (a : List DWord) : List DWord := lanes (fun u v => lane a (u + 3 * v) u)

/-- chi (R324). -/
def keccakChi (b : List DWord) : List DWord :=
  lanes (fun x y => lane b x y ^^^ (~~~ lane b (x + 1) y &&& lane b (x + 2) y))

/-- The table of R325 in the columns the spec prints it in: row `i` holds `RC[i]`, `RC[i + 8]` and
`RC[i + 16]`. -/
def keccakRCRows : List (DWord × DWord × DWord) :=
  [(0x0000000000000001, 0x000000000000008A, 0x8000000000008002),
   (0x0000000000008082, 0x0000000000000088, 0x8000000000000080),
   (0x800000000000808A, 0x0000000080008009, 0x000000000000800A),
   (0x8000000080008000, 0x000000008000000A, 0x800000008000000A),
   (0x000000000000808B, 0x000000008000808B, 0x8000000080008081),
   (0x0000000080000001, 0x800000000000008B, 0x8000000000008080),
   (0x8000000080008081, 0x8000000000008089, 0x0000000080000001),
   (0x8000000000008009, 0x8000000000008003, 0x8000000080008008)]

/-- The round constants in round order: the first column, then the second, then the third (R325). -/
def keccakRC : List DWord :=
  keccakRCRows.map (fun r => r.1) ++ keccakRCRows.map (fun r => r.2.1) ++
    keccakRCRows.map (fun r => r.2.2)

/-- iota with a round constant (R325). -/
def keccakIota (rc : DWord) (a : List DWord) : List DWord :=
  lanes (fun x y => if x = 0 ∧ y = 0 then lane a 0 0 ^^^ rc else lane a x y)

/-- One round: theta, rho, pi, chi, iota (R327). -/
def keccakRound (a : List DWord) (rc : DWord) : List DWord :=
  keccakIota rc (keccakChi (keccakPi (keccakRho (keccakTheta a))))

/-- `KeccakP1600(A)`: 24 rounds (R327). -/
def keccakP1600 (a : List DWord) : List DWord := keccakRC.foldl keccakRound a

/-- A lane of eight bytes, least significant first (20_memory.md R90). -/
def laneOfBytes (bs : List Byte) : DWord :=
  bs.getD 7 0 ++ bs.getD 6 0 ++ bs.getD 5 0 ++ bs.getD 4 0 ++ bs.getD 3 0 ++ bs.getD 2 0 ++
    bs.getD 1 0 ++ bs.getD 0 0

/-- The eight bytes of a lane, least significant first (R90). -/
def laneBytes (v : DWord) : List Byte :=
  (List.range 8).map (fun j => v.extractLsb' (8 * j) 8)

/-- The 25 lanes of STATE (R90, R320). -/
def stateLanes (s : State) : List DWord :=
  (List.range 25).map (fun i => laneOfBytes (readBytes s (stateBase + 8 * i) 8))

/-- KECCAK.P1600 (R330): the permutation of STATE in place. -/
def performKeccakP1600 (s : State) : State :=
  writeBytes s stateBase ((keccakP1600 (stateLanes s)).flatMap laneBytes)

/-- KECCAK.P1600 (R330). -/
def execKeccakP1600 (s : State) : Host.Outcome State Fault Refusal :=
  engineStep (check .keccakP1600 s) performKeccakP1600 s

end Sys2Proof.Machine
end

