-- ==== Sys2Proof/Machine/Snow3g.lean ====
section
/-! DEFINITION. SNOW 3G, UEA2 and UIA2 (41_snow3g.md): field arithmetic, S-boxes, clocking, loading and
initialisation, the keystream word, the two modes, and the meanings of SNOW3G.INIT, SNOW3G.GENKS,
SNOW3G.UEA2 and SNOW3G.UIA2. -/

namespace Sys2Proof.Machine

/-! ## Field arithmetic (R191 to R193) -/

/-- `MULx(V, c)` (R191). -/
def mulx (c v : Byte) : Byte := if v.getLsbD 7 then (v <<< 1) ^^^ c else v <<< 1

/-- `MULxPOW(V, i, c)`: MULx applied `i` times (R191). -/
def mulxPow (v : Byte) (i : Nat) (c : Byte) : Byte := iter (mulx c) i v

/-- `MULα(c)` (R192). -/
def mulAlpha (c : Byte) : Word :=
  mulxPow c 23 0xA9 ++ mulxPow c 245 0xA9 ++ mulxPow c 48 0xA9 ++ mulxPow c 239 0xA9

/-- `DIVα(c)` (R193). -/
def divAlpha (c : Byte) : Word :=
  mulxPow c 16 0xA9 ++ mulxPow c 39 0xA9 ++ mulxPow c 6 0xA9 ++ mulxPow c 64 0xA9

/-! ## S-boxes (R194 to R197) -/

/-- SR, the Rijndael S-box (41_snow3g.md R194). -/
def srRows : List (List Nat) :=
  [[0x63, 0x7C, 0x77, 0x7B, 0xF2, 0x6B, 0x6F, 0xC5, 0x30, 0x01, 0x67, 0x2B, 0xFE, 0xD7, 0xAB, 0x76],
   [0xCA, 0x82, 0xC9, 0x7D, 0xFA, 0x59, 0x47, 0xF0, 0xAD, 0xD4, 0xA2, 0xAF, 0x9C, 0xA4, 0x72, 0xC0],
   [0xB7, 0xFD, 0x93, 0x26, 0x36, 0x3F, 0xF7, 0xCC, 0x34, 0xA5, 0xE5, 0xF1, 0x71, 0xD8, 0x31, 0x15],
   [0x04, 0xC7, 0x23, 0xC3, 0x18, 0x96, 0x05, 0x9A, 0x07, 0x12, 0x80, 0xE2, 0xEB, 0x27, 0xB2, 0x75],
   [0x09, 0x83, 0x2C, 0x1A, 0x1B, 0x6E, 0x5A, 0xA0, 0x52, 0x3B, 0xD6, 0xB3, 0x29, 0xE3, 0x2F, 0x84],
   [0x53, 0xD1, 0x00, 0xED, 0x20, 0xFC, 0xB1, 0x5B, 0x6A, 0xCB, 0xBE, 0x39, 0x4A, 0x4C, 0x58, 0xCF],
   [0xD0, 0xEF, 0xAA, 0xFB, 0x43, 0x4D, 0x33, 0x85, 0x45, 0xF9, 0x02, 0x7F, 0x50, 0x3C, 0x9F, 0xA8],
   [0x51, 0xA3, 0x40, 0x8F, 0x92, 0x9D, 0x38, 0xF5, 0xBC, 0xB6, 0xDA, 0x21, 0x10, 0xFF, 0xF3, 0xD2],
   [0xCD, 0x0C, 0x13, 0xEC, 0x5F, 0x97, 0x44, 0x17, 0xC4, 0xA7, 0x7E, 0x3D, 0x64, 0x5D, 0x19, 0x73],
   [0x60, 0x81, 0x4F, 0xDC, 0x22, 0x2A, 0x90, 0x88, 0x46, 0xEE, 0xB8, 0x14, 0xDE, 0x5E, 0x0B, 0xDB],
   [0xE0, 0x32, 0x3A, 0x0A, 0x49, 0x06, 0x24, 0x5C, 0xC2, 0xD3, 0xAC, 0x62, 0x91, 0x95, 0xE4, 0x79],
   [0xE7, 0xC8, 0x37, 0x6D, 0x8D, 0xD5, 0x4E, 0xA9, 0x6C, 0x56, 0xF4, 0xEA, 0x65, 0x7A, 0xAE, 0x08],
   [0xBA, 0x78, 0x25, 0x2E, 0x1C, 0xA6, 0xB4, 0xC6, 0xE8, 0xDD, 0x74, 0x1F, 0x4B, 0xBD, 0x8B, 0x8A],
   [0x70, 0x3E, 0xB5, 0x66, 0x48, 0x03, 0xF6, 0x0E, 0x61, 0x35, 0x57, 0xB9, 0x86, 0xC1, 0x1D, 0x9E],
   [0xE1, 0xF8, 0x98, 0x11, 0x69, 0xD9, 0x8E, 0x94, 0x9B, 0x1E, 0x87, 0xE9, 0xCE, 0x55, 0x28, 0xDF],
   [0x8C, 0xA1, 0x89, 0x0D, 0xBF, 0xE6, 0x42, 0x68, 0x41, 0x99, 0x2D, 0x0F, 0xB0, 0x54, 0xBB, 0x16]]

/-- SQ (41_snow3g.md R195). -/
def sqRows : List (List Nat) :=
  [[0x25, 0x24, 0x73, 0x67, 0xD7, 0xAE, 0x5C, 0x30, 0xA4, 0xEE, 0x6E, 0xCB, 0x7D, 0xB5, 0x82, 0xDB],
   [0xE4, 0x8E, 0x48, 0x49, 0x4F, 0x5D, 0x6A, 0x78, 0x70, 0x88, 0xE8, 0x5F, 0x5E, 0x84, 0x65, 0xE2],
   [0xD8, 0xE9, 0xCC, 0xED, 0x40, 0x2F, 0x11, 0x28, 0x57, 0xD2, 0xAC, 0xE3, 0x4A, 0x15, 0x1B, 0xB9],
   [0xB2, 0x80, 0x85, 0xA6, 0x2E, 0x02, 0x47, 0x29, 0x07, 0x4B, 0x0E, 0xC1, 0x51, 0xAA, 0x89, 0xD4],
   [0xCA, 0x01, 0x46, 0xB3, 0xEF, 0xDD, 0x44, 0x7B, 0xC2, 0x7F, 0xBE, 0xC3, 0x9F, 0x20, 0x4C, 0x64],
   [0x83, 0xA2, 0x68, 0x42, 0x13, 0xB4, 0x41, 0xCD, 0xBA, 0xC6, 0xBB, 0x6D, 0x4D, 0x71, 0x21, 0xF4],
   [0x8D, 0xB0, 0xE5, 0x93, 0xFE, 0x8F, 0xE6, 0xCF, 0x43, 0x45, 0x31, 0x22, 0x37, 0x36, 0x96, 0xFA],
   [0xBC, 0x0F, 0x08, 0x52, 0x1D, 0x55, 0x1A, 0xC5, 0x4E, 0x23, 0x69, 0x7A, 0x92, 0xFF, 0x5B, 0x5A],
   [0xEB, 0x9A, 0x1C, 0xA9, 0xD1, 0x7E, 0x0D, 0xFC, 0x50, 0x8A, 0xB6, 0x62, 0xF5, 0x0A, 0xF8, 0xDC],
   [0x03, 0x3C, 0x0C, 0x39, 0xF1, 0xB8, 0xF3, 0x3D, 0xF2, 0xD5, 0x97, 0x66, 0x81, 0x32, 0xA0, 0x00],
   [0x06, 0xCE, 0xF6, 0xEA, 0xB7, 0x17, 0xF7, 0x8C, 0x79, 0xD6, 0xA7, 0xBF, 0x8B, 0x3F, 0x1F, 0x53],
   [0x63, 0x75, 0x35, 0x2C, 0x60, 0xFD, 0x27, 0xD3, 0x94, 0xA5, 0x7C, 0xA1, 0x05, 0x58, 0x2D, 0xBD],
   [0xD9, 0xC7, 0xAF, 0x6B, 0x54, 0x0B, 0xE0, 0x38, 0x04, 0xC8, 0x9D, 0xE7, 0x14, 0xB1, 0x87, 0x9C],
   [0xDF, 0x6F, 0xF9, 0xDA, 0x2A, 0xC4, 0x59, 0x16, 0x74, 0x91, 0xAB, 0x26, 0x61, 0x76, 0x34, 0x2B],
   [0xAD, 0x99, 0xFB, 0x72, 0xEC, 0x33, 0x12, 0xDE, 0x98, 0x3B, 0xC0, 0x9B, 0x3E, 0x18, 0x10, 0x3A],
   [0x56, 0xE1, 0x77, 0xC9, 0x1E, 0x9E, 0x95, 0xA3, 0x90, 0x19, 0xA8, 0x6C, 0x09, 0xD0, 0xF0, 0x86]]

/-- SR (R194). -/
def srBox (x : Byte) : Byte := BitVec.ofNat 8 (tableAt srRows x.toNat)

/-- SQ (R195). -/
def sqBox (x : Byte) : Byte := BitVec.ofNat 8 (tableAt sqRows x.toNat)

/-- The mixing that S1 and S2 share (R196, R197): `a_j` the substituted bytes, most significant first,
`m_j = MULx(a_j, c)`. -/
def snowMix (c a0 a1 a2 a3 : Byte) : Word :=
  let m0 := mulx c a0
  let m1 := mulx c a1
  let m2 := mulx c a2
  let m3 := mulx c a3
  (m0 ^^^ a1 ^^^ a2 ^^^ m3 ^^^ a3) ++ (m0 ^^^ a0 ^^^ m1 ^^^ a2 ^^^ a3) ++
    (a0 ^^^ m1 ^^^ a1 ^^^ m2 ^^^ a3) ++ (a0 ^^^ a1 ^^^ m2 ^^^ a2 ^^^ m3)

/-- S1 (R196). -/
def snowS1 (w : Word) : Word :=
  snowMix 0x1B (srBox (w.extractLsb' 24 8)) (srBox (w.extractLsb' 16 8))
    (srBox (w.extractLsb' 8 8)) (srBox (w.extractLsb' 0 8))

/-- S2 (R197). -/
def snowS2 (w : Word) : Word :=
  snowMix 0x69 (sqBox (w.extractLsb' 24 8)) (sqBox (w.extractLsb' 16 8))
    (sqBox (w.extractLsb' 8 8)) (sqBox (w.extractLsb' 0 8))

/-! ## Clocking (R198, R199) -/

/-- The word `F` a clock of the FSM returns (R198). -/
def fsmWord (g : SnowGen) : Word := (g.lfsr.s15 + g.r1) ^^^ g.r2

/-- What a clock of the FSM leaves (R198); every right-hand side uses the values from before. -/
def clockFsm (g : SnowGen) : SnowGen :=
  { lfsr := g.lfsr
    r1 := g.r2 + (g.r3 ^^^ g.lfsr.s5)
    r2 := snowS1 g.r1
    r3 := snowS2 g.r2 }

/-- The LFSR's new cell with input `u` (R199). -/
def snowFeedback (l : Lfsr 32) (u : Word) : Word :=
  (l.s0 <<< 8) ^^^ mulAlpha (l.s0.extractLsb' 24 8) ^^^ l.s2 ^^^ (l.s11 >>> 8) ^^^
    divAlpha (l.s11.extractLsb' 0 8) ^^^ u

/-- `ClockLFSR(u)` (R199). -/
def clockSnowLfsr (u : Word) (g : SnowGen) : SnowGen :=
  { g with lfsr := g.lfsr.shift (snowFeedback g.lfsr u) }

/-- One clock in initialisation mode: `F ← ClockFSM(); ClockLFSR(F)` (R201). -/
def snowInitClock (g : SnowGen) : SnowGen := clockSnowLfsr (fsmWord g) (clockFsm g)

/-- One clock in keystream mode: `ClockFSM(); ClockLFSR(0)` (R201, R202). -/
def snowClock (g : SnowGen) : SnowGen := clockSnowLfsr 0 (clockFsm g)

/-! ## Loading and initialisation (R200, R201) -/

/-- Loading from key words `k0..k3` and IV words `IV0..IV3`, in the quads' order (R200). -/
def snowLoad (k iv : Quad) : SnowGen :=
  let one : Word := 0xFFFFFFFF
  { lfsr :=
      { s15 := k.w3 ^^^ iv.w0, s14 := k.w2, s13 := k.w1, s12 := k.w0 ^^^ iv.w1
        s11 := k.w3 ^^^ one, s10 := k.w2 ^^^ one ^^^ iv.w2, s9 := k.w1 ^^^ one ^^^ iv.w3
        s8 := k.w0 ^^^ one
        s7 := k.w3, s6 := k.w2, s5 := k.w1, s4 := k.w0
        s3 := k.w3 ^^^ one, s2 := k.w2 ^^^ one, s1 := k.w1 ^^^ one, s0 := k.w0 ^^^ one }
    r1 := 0, r2 := 0, r3 := 0 }

/-- `SnowInit(k, IV)` (R201): 32 clocks in initialisation mode, then one in keystream mode whose output
is discarded. -/
def snowInit (k iv : Quad) : SnowGen := snowClock (iter snowInitClock 32 (snowLoad k iv))

/-! ## Keystream (R202) -/

/-- The keystream word a generator gives next: `z = F ⊕ s0`, `s0` before the LFSR clock (R202). -/
def snowWord (g : SnowGen) : Word := fsmWord g ^^^ g.lfsr.s0

/-- The next `n` keystream words (R202). -/
def snowWords : Nat → SnowGen → List Word
  | 0, _ => []
  | n + 1, g => snowWord g :: snowWords n (snowClock g)

/-- The generator after `n` keystream words (R202). -/
def snowAfter : Nat → SnowGen → SnowGen
  | 0, g => g
  | n + 1, g => snowAfter n (snowClock g)

/-- The key words of the two modes: `k3 = KEY0`, `k2 = KEY1`, `k1 = KEY2`, `k0 = KEY3` (R204). -/
def modeKey (q : Quad) : Quad := { w0 := q.w3, w1 := q.w2, w2 := q.w1, w3 := q.w0 }

/-! ## UEA2 (R208) -/

/-- The word `BEARER << 27 | DIR << 26` (R208). -/
def uea2Frame (bearer : BitVec 5) (dir : Bool) : Word := bearer ++ bit dir ++ (0 : BitVec 26)

/-- The IV words IV0 to IV3 of UEA2 (R208). -/
def uea2Iv (count : Word) (bearer : BitVec 5) (dir : Bool) : Quad :=
  { w0 := uea2Frame bearer dir, w1 := count, w2 := uea2Frame bearer dir, w3 := count }

/-! ## UIA2 (R209, R210) -/

/-- `MUL64x(V)` (R209). -/
def mul64x (v : DWord) : DWord := if v.getLsbD 63 then (v <<< 1) ^^^ 0x1B else v <<< 1

/-- `MUL64xPOW(V, i)` (R209). -/
def mul64xPow (v : DWord) (i : Nat) : DWord := iter mul64x i v

/-- `MUL64(V, P)` (R209). -/
def mul64 (v p : DWord) : DWord :=
  (List.range 64).foldl (fun acc i => if p.getLsbD i then acc ^^^ mul64xPow v i else acc) 0

/-- The IV words IV0 to IV3 of UIA2 (R210). -/
def uia2Iv (count fresh : Word) (dir : Bool) : Quad :=
  { w0 := fresh ^^^ ((bit dir).zeroExtend 32 <<< 15)
    w1 := count ^^^ ((bit dir).zeroExtend 32 <<< 31)
    w2 := fresh
    w3 := count }

/-- The message blocks `M0 .. M(D−2)`: `ceil_div(L, 64)` of them, bits from `L` up 0 (R210). -/
def uia2Blocks (msg : List Bool) : List DWord :=
  let n := ceilDiv msg.length 64
  bitBlocks 64 n (msg ++ List.replicate (64 * n - msg.length) false)

/-- The accumulator over the message blocks (R210). -/
def uia2Eval (p : DWord) (blocks : List DWord) : DWord :=
  blocks.foldl (fun eval m => mul64 (eval ^^^ m) p) 0

/-- The MAC from the five keystream words `z1 .. z5` (R210). -/
def uia2Fold (z1 z2 z3 z4 z5 : Word) (msg : List Bool) : Word :=
  let eval := uia2Eval (z1 ++ z2) (uia2Blocks msg) ^^^ BitVec.ofNat 64 msg.length
  (mul64 eval (z3 ++ z4)).extractLsb' 32 32 ^^^ z5

/-- The UIA2 MAC (R210); `k` holds the words `k0..k3`. -/
def uia2Mac (k : Quad) (count fresh : Word) (dir : Bool) (msg : List Bool) : Word :=
  let zs := snowWords 5 (snowInit k (uia2Iv count fresh dir))
  uia2Fold (zs.getD 0 0) (zs.getD 1 0) (zs.getD 2 0) (zs.getD 3 0) (zs.getD 4 0) msg

/-! ## Commands -/

/-- SNOW3G.INIT (R205): `k_i = KEYi`, `IV_i = IVi` (R204), into `ctx.SNOW[c]`. -/
def performSnow3gInit (c : Nat) (s : State) : State :=
  setSnow s c { valid := true, gen := snowInit s.key s.iv }

/-- SNOW3G.INIT (R205). -/
def execSnow3gInit (c : Nat) (s : State) : Host.Outcome State Fault Refusal :=
  engineStep (check (.snow3gInit c) s) (performSnow3gInit c) s

/-- SNOW3G.GENKS (R206): `n` keystream words to DBUF; the record keeps V and advances. -/
def performSnow3gGenks (c : Nat) (s : State) : State :=
  let r := (s.slot c).snow
  setSnow (storeKeystream s (snowWords (opNwords s) r.gen)) c
    { r with gen := snowAfter (opNwords s) r.gen }

/-- SNOW3G.GENKS (R206). -/
def execSnow3gGenks (c : Nat) (s : State) : Host.Outcome State Fault Refusal :=
  engineStep (check (.snow3gGenks c) s) (performSnow3gGenks c) s

/-- The private generator of SNOW3G.UEA2 (R208). -/
def uea2Gen (s : State) : SnowGen :=
  snowInit (modeKey s.key) (uea2Iv s.count (opBearer s) (opDir s))

/-- The keystream SNOW3G.UEA2 applies: `ceil_div(L, 32)` words (R208), as bytes. -/
def snow3gUea2Bytes (s : State) : List Byte :=
  (snowWords (ceilDiv (opLength s) 32) (uea2Gen s)).flatMap wordBytes

/-- SNOW3G.UEA2 (R208): the UEA2 keystream onto the message in DBUF. -/
def performSnow3gUea2 (s : State) : State := applyKeystream s (snow3gUea2Bytes s)

/-- SNOW3G.UEA2 (R208). -/
def execSnow3gUea2 (s : State) : Host.Outcome State Fault Refusal :=
  engineStep (check .snow3gUea2 s) performSnow3gUea2 s

/-- SNOW3G.UIA2 (R211): the UIA2 MAC of the message into RES0. -/
def performSnow3gUia2 (s : State) : State :=
  setRes0 s (uia2Mac (modeKey s.key) s.count s.fresh (opDir s) (messageBits s))

/-- SNOW3G.UIA2 (R211). -/
def execSnow3gUia2 (s : State) : Host.Outcome State Fault Refusal :=
  engineStep (check .snow3gUia2 s) performSnow3gUia2 s

end Sys2Proof.Machine
end

