-- ==== Sys2Proof/Machine/Zuc.lean ====
section
/-! DEFINITION. ZUC, EEA3 and EIA3 (42_zuc.md): tables, the nonlinear stage, the LFSR over GF(2^31 − 1),
loading and initialisation, the keystream word, the two modes, and the meanings of ZUC.INIT, ZUC.GENKS,
ZUC.EEA3 and ZUC.EIA3. -/

namespace Sys2Proof.Machine

/-! ## Tables (R241 to R243) -/

/-- S0 (42_zuc.md R241). -/
def zucS0Rows : List (List Nat) :=
  [[0x3E, 0x72, 0x5B, 0x47, 0xCA, 0xE0, 0x00, 0x33, 0x04, 0xD1, 0x54, 0x98, 0x09, 0xB9, 0x6D, 0xCB],
   [0x7B, 0x1B, 0xF9, 0x32, 0xAF, 0x9D, 0x6A, 0xA5, 0xB8, 0x2D, 0xFC, 0x1D, 0x08, 0x53, 0x03, 0x90],
   [0x4D, 0x4E, 0x84, 0x99, 0xE4, 0xCE, 0xD9, 0x91, 0xDD, 0xB6, 0x85, 0x48, 0x8B, 0x29, 0x6E, 0xAC],
   [0xCD, 0xC1, 0xF8, 0x1E, 0x73, 0x43, 0x69, 0xC6, 0xB5, 0xBD, 0xFD, 0x39, 0x63, 0x20, 0xD4, 0x38],
   [0x76, 0x7D, 0xB2, 0xA7, 0xCF, 0xED, 0x57, 0xC5, 0xF3, 0x2C, 0xBB, 0x14, 0x21, 0x06, 0x55, 0x9B],
   [0xE3, 0xEF, 0x5E, 0x31, 0x4F, 0x7F, 0x5A, 0xA4, 0x0D, 0x82, 0x51, 0x49, 0x5F, 0xBA, 0x58, 0x1C],
   [0x4A, 0x16, 0xD5, 0x17, 0xA8, 0x92, 0x24, 0x1F, 0x8C, 0xFF, 0xD8, 0xAE, 0x2E, 0x01, 0xD3, 0xAD],
   [0x3B, 0x4B, 0xDA, 0x46, 0xEB, 0xC9, 0xDE, 0x9A, 0x8F, 0x87, 0xD7, 0x3A, 0x80, 0x6F, 0x2F, 0xC8],
   [0xB1, 0xB4, 0x37, 0xF7, 0x0A, 0x22, 0x13, 0x28, 0x7C, 0xCC, 0x3C, 0x89, 0xC7, 0xC3, 0x96, 0x56],
   [0x07, 0xBF, 0x7E, 0xF0, 0x0B, 0x2B, 0x97, 0x52, 0x35, 0x41, 0x79, 0x61, 0xA6, 0x4C, 0x10, 0xFE],
   [0xBC, 0x26, 0x95, 0x88, 0x8A, 0xB0, 0xA3, 0xFB, 0xC0, 0x18, 0x94, 0xF2, 0xE1, 0xE5, 0xE9, 0x5D],
   [0xD0, 0xDC, 0x11, 0x66, 0x64, 0x5C, 0xEC, 0x59, 0x42, 0x75, 0x12, 0xF5, 0x74, 0x9C, 0xAA, 0x23],
   [0x0E, 0x86, 0xAB, 0xBE, 0x2A, 0x02, 0xE7, 0x67, 0xE6, 0x44, 0xA2, 0x6C, 0xC2, 0x93, 0x9F, 0xF1],
   [0xF6, 0xFA, 0x36, 0xD2, 0x50, 0x68, 0x9E, 0x62, 0x71, 0x15, 0x3D, 0xD6, 0x40, 0xC4, 0xE2, 0x0F],
   [0x8E, 0x83, 0x77, 0x6B, 0x25, 0x05, 0x3F, 0x0C, 0x30, 0xEA, 0x70, 0xB7, 0xA1, 0xE8, 0xA9, 0x65],
   [0x8D, 0x27, 0x1A, 0xDB, 0x81, 0xB3, 0xA0, 0xF4, 0x45, 0x7A, 0x19, 0xDF, 0xEE, 0x78, 0x34, 0x60]]

/-- S1 (42_zuc.md R242). -/
def zucS1Rows : List (List Nat) :=
  [[0x55, 0xC2, 0x63, 0x71, 0x3B, 0xC8, 0x47, 0x86, 0x9F, 0x3C, 0xDA, 0x5B, 0x29, 0xAA, 0xFD, 0x77],
   [0x8C, 0xC5, 0x94, 0x0C, 0xA6, 0x1A, 0x13, 0x00, 0xE3, 0xA8, 0x16, 0x72, 0x40, 0xF9, 0xF8, 0x42],
   [0x44, 0x26, 0x68, 0x96, 0x81, 0xD9, 0x45, 0x3E, 0x10, 0x76, 0xC6, 0xA7, 0x8B, 0x39, 0x43, 0xE1],
   [0x3A, 0xB5, 0x56, 0x2A, 0xC0, 0x6D, 0xB3, 0x05, 0x22, 0x66, 0xBF, 0xDC, 0x0B, 0xFA, 0x62, 0x48],
   [0xDD, 0x20, 0x11, 0x06, 0x36, 0xC9, 0xC1, 0xCF, 0xF6, 0x27, 0x52, 0xBB, 0x69, 0xF5, 0xD4, 0x87],
   [0x7F, 0x84, 0x4C, 0xD2, 0x9C, 0x57, 0xA4, 0xBC, 0x4F, 0x9A, 0xDF, 0xFE, 0xD6, 0x8D, 0x7A, 0xEB],
   [0x2B, 0x53, 0xD8, 0x5C, 0xA1, 0x14, 0x17, 0xFB, 0x23, 0xD5, 0x7D, 0x30, 0x67, 0x73, 0x08, 0x09],
   [0xEE, 0xB7, 0x70, 0x3F, 0x61, 0xB2, 0x19, 0x8E, 0x4E, 0xE5, 0x4B, 0x93, 0x8F, 0x5D, 0xDB, 0xA9],
   [0xAD, 0xF1, 0xAE, 0x2E, 0xCB, 0x0D, 0xFC, 0xF4, 0x2D, 0x46, 0x6E, 0x1D, 0x97, 0xE8, 0xD1, 0xE9],
   [0x4D, 0x37, 0xA5, 0x75, 0x5E, 0x83, 0x9E, 0xAB, 0x82, 0x9D, 0xB9, 0x1C, 0xE0, 0xCD, 0x49, 0x89],
   [0x01, 0xB6, 0xBD, 0x58, 0x24, 0xA2, 0x5F, 0x38, 0x78, 0x99, 0x15, 0x90, 0x50, 0xB8, 0x95, 0xE4],
   [0xD0, 0x91, 0xC7, 0xCE, 0xED, 0x0F, 0xB4, 0x6F, 0xA0, 0xCC, 0xF0, 0x02, 0x4A, 0x79, 0xC3, 0xDE],
   [0xA3, 0xEF, 0xEA, 0x51, 0xE6, 0x6B, 0x18, 0xEC, 0x1B, 0x2C, 0x80, 0xF7, 0x74, 0xE7, 0xFF, 0x21],
   [0x5A, 0x6A, 0x54, 0x1E, 0x41, 0x31, 0x92, 0x35, 0xC4, 0x33, 0x07, 0x0A, 0xBA, 0x7E, 0x0E, 0x34],
   [0x88, 0xB1, 0x98, 0x7C, 0xF3, 0x3D, 0x60, 0x6C, 0x7B, 0xCA, 0xD3, 0x1F, 0x32, 0x65, 0x04, 0x28],
   [0x64, 0xBE, 0x85, 0x9B, 0x2F, 0x59, 0x8A, 0xD7, 0xB0, 0x25, 0xAC, 0xAF, 0x12, 0x03, 0xE2, 0xF2]]

/-- S0 (R241). -/
def zucS0 (x : Byte) : Byte := BitVec.ofNat 8 (tableAt zucS0Rows x.toNat)

/-- S1 (R242). -/
def zucS1 (x : Byte) : Byte := BitVec.ofNat 8 (tableAt zucS1Rows x.toNat)

/-- The loading constants `d0` to `d15` (R243). -/
def zucD : List (BitVec 15) :=
  [0x44D7, 0x26BC, 0x626B, 0x135E, 0x5789, 0x35E2, 0x7135, 0x09AF,
   0x4D78, 0x2F13, 0x6BC4, 0x1AF1, 0x5E26, 0x3C4D, 0x789A, 0x47AC]

/-! ## The nonlinear stage (R244 to R247) -/

/-- L1 (R244). -/
def zucL1 (x : Word) : Word :=
  x ^^^ x.rotateLeft 2 ^^^ x.rotateLeft 10 ^^^ x.rotateLeft 18 ^^^ x.rotateLeft 24

/-- L2 (R244). -/
def zucL2 (x : Word) : Word :=
  x ^^^ x.rotateLeft 8 ^^^ x.rotateLeft 14 ^^^ x.rotateLeft 22 ^^^ x.rotateLeft 30

/-- The S-box layer `S` (R245). -/
def zucS (x : Word) : Word :=
  zucS0 (x.extractLsb' 24 8) ++ zucS1 (x.extractLsb' 16 8) ++
    zucS0 (x.extractLsb' 8 8) ++ zucS1 (x.extractLsb' 0 8)

/-- `H(s) = s[30:15]` (R246). -/
def zucHigh (s : BitVec 31) : HWord := s.extractLsb' 15 16

/-- `Lo(s) = s[15:0]` (R246). -/
def zucLow (s : BitVec 31) : HWord := s.extractLsb' 0 16

/-- X0 of the bit reorganization (R246). -/
def zucX0 (l : Lfsr 31) : Word := zucHigh l.s15 ++ zucLow l.s14

/-- X1 of the bit reorganization (R246). -/
def zucX1 (l : Lfsr 31) : Word := zucLow l.s11 ++ zucHigh l.s9

/-- X2 of the bit reorganization (R246). -/
def zucX2 (l : Lfsr 31) : Word := zucLow l.s7 ++ zucHigh l.s5

/-- X3 of the bit reorganization (R246). -/
def zucX3 (l : Lfsr 31) : Word := zucLow l.s2 ++ zucHigh l.s0

/-- The word `W` the nonlinear function F returns (R247). -/
def zucF (g : ZucGen) : Word := (zucX0 g.lfsr ^^^ g.r1) + g.r2

/-- What F leaves in R1 and R2 (R247). -/
def clockZucF (g : ZucGen) : ZucGen :=
  let w1 := g.r1 + zucX1 g.lfsr
  let w2 := g.r2 ^^^ zucX2 g.lfsr
  { lfsr := g.lfsr
    r1 := zucS (zucL1 (w1.extractLsb' 0 16 ++ w2.extractLsb' 16 16))
    r2 := zucS (zucL2 (w2.extractLsb' 0 16 ++ w1.extractLsb' 16 16)) }

/-! ## The LFSR (R248, R249) -/

/-- The field's modulus `p = 2^31 − 1` (R248). -/
def zucP : Nat := 2 ^ 31 - 1

/-- The feedback before the input, reduced mod `p` (R249). -/
def zucFeedback (l : Lfsr 31) : Nat :=
  (2 ^ 15 * l.s15.toNat + 2 ^ 17 * l.s13.toNat + 2 ^ 21 * l.s10.toNat + 2 ^ 20 * l.s4.toNat +
    (1 + 2 ^ 8) * l.s0.toNat) % zucP

/-- The cell for a field element: `2^31 − 1` stands for zero (R248, R249). -/
def zucCell (v : Nat) : BitVec 31 := BitVec.ofNat 31 (if v = 0 then zucP else v)

/-- `ClockLFSR(u)` in initialisation mode, `u` the 31-bit input (R249). -/
def clockZucLfsrInit (u : Nat) (g : ZucGen) : ZucGen :=
  { g with lfsr := g.lfsr.shift (zucCell ((zucFeedback g.lfsr + u) % zucP)) }

/-- `ClockLFSR(none)`, work mode (R249). -/
def clockZucLfsr (g : ZucGen) : ZucGen :=
  { g with lfsr := g.lfsr.shift (zucCell (zucFeedback g.lfsr)) }

/-- One clock in initialisation mode: `BitReorganization(); W ← F(); ClockLFSR(W >> 1)` (R251). -/
def zucInitClock (g : ZucGen) : ZucGen := clockZucLfsrInit (zucF g >>> 1).toNat (clockZucF g)

/-- One clock in work mode: `BitReorganization(); F(); ClockLFSR(none)` (R251, R252). -/
def zucClock (g : ZucGen) : ZucGen := clockZucLfsr (clockZucF g)

/-! ## Loading and initialisation (R250, R251) -/

/-- One loaded cell: `k_i || d_i || iv_i` (R250). -/
def zucLoadCell (k iv : List Byte) (i : Nat) : BitVec 31 :=
  k.getD i 0 ++ zucD.getD i 0 ++ iv.getD i 0

/-- Loading from sixteen key bytes and sixteen IV bytes (R250). -/
def zucLoad (k iv : List Byte) : ZucGen :=
  let c := zucLoadCell k iv
  { lfsr :=
      { s0 := c 0, s1 := c 1, s2 := c 2, s3 := c 3, s4 := c 4, s5 := c 5, s6 := c 6, s7 := c 7
        s8 := c 8, s9 := c 9, s10 := c 10, s11 := c 11, s12 := c 12, s13 := c 13, s14 := c 14
        s15 := c 15 }
    r1 := 0, r2 := 0 }

/-- `ZucInit(k, iv)` (R251): 32 clocks in initialisation mode, then one in work mode whose output is
discarded. -/
def zucInit (k iv : List Byte) : ZucGen := zucClock (iter zucInitClock 32 (zucLoad k iv))

/-! ## Keystream (R252) -/

/-- The keystream word a generator gives next: `Z = F ⊕ X3` (R252). -/
def zucWord (g : ZucGen) : Word := zucF g ^^^ zucX3 g.lfsr

/-- The next `n` keystream words (R252). -/
def zucWords : Nat → ZucGen → List Word
  | 0, _ => []
  | n + 1, g => zucWord g :: zucWords n (zucClock g)

/-- The generator after `n` keystream words (R252). -/
def zucAfter : Nat → ZucGen → ZucGen
  | 0, g => g
  | n + 1, g => zucAfter n (zucClock g)

/-! ## EEA3 (R257) -/

/-- The sixteen IV bytes of EEA3 (R257). -/
def eea3Iv (count : Word) (bearer : BitVec 5) (dir : Bool) : List Byte :=
  let half := wordBytes count ++ [bearer ++ bit dir ++ (0 : BitVec 2), 0, 0, 0]
  half ++ half

/-! ## EIA3 (R259) -/

/-- The sixteen IV bytes of EIA3 (R259). -/
def eia3Iv (count : Word) (bearer : BitVec 5) (dir : Bool) : List Byte :=
  let c := wordBytes count
  let iv4 : Byte := bearer ++ (0 : BitVec 3)
  let d : Byte := bit dir ++ (0 : BitVec 7)
  c ++ [iv4, 0, 0, 0] ++
    [c.getD 0 0 ^^^ d, c.getD 1 0, c.getD 2 0, c.getD 3 0, iv4, 0, 0 ^^^ d, 0]

/-- The number `N` of keystream words: `ceil_div(L, 32) + 2` (R259). -/
def eia3WordCount (l : Nat) : Nat := ceilDiv l 32 + 2

/-- `k(i)`: bits `i .. i+31` of the keystream string, bit `i` most significant (R259). -/
def eia3Key (z : List Bool) (i : Nat) : Word := BitVec.ofNat 32 (bitsToNat ((z.drop i).take 32))

/-- The accumulation over the message bits from position `i` on (R259). -/
def eia3Acc (z : List Bool) : Nat → List Bool → Word → Word
  | _, [], t => t
  | i, b :: bs, t => eia3Acc z (i + 1) bs (if b then t ^^^ eia3Key z i else t)

/-- The EIA3 MAC from the keystream string (R259). -/
def eia3Fold (z : List Bool) (msg : List Bool) : Word :=
  eia3Acc z 0 msg 0 ^^^ eia3Key z msg.length ^^^ eia3Key z (32 * (eia3WordCount msg.length - 1))

/-- The EIA3 MAC (R259). -/
def eia3Mac (ik : List Byte) (count : Word) (bearer : BitVec 5) (dir : Bool) (msg : List Bool) :
    Word :=
  eia3Fold ((zucWords (eia3WordCount msg.length)
    (zucInit ik (eia3Iv count bearer dir))).flatMap wordBits) msg

/-! ## Commands -/

/-- ZUC.INIT (R255): key bytes of KEY, IV bytes of IV (R254), into `ctx.ZUC[c]`. -/
def performZucInit (c : Nat) (s : State) : State :=
  setZuc s c { valid := true, gen := zucInit s.key.bytes s.iv.bytes }

/-- ZUC.INIT (R255). -/
def execZucInit (c : Nat) (s : State) : Host.Outcome State Fault Refusal :=
  engineStep (check (.zucInit c) s) (performZucInit c) s

/-- ZUC.GENKS (R256): `n` keystream words to DBUF; the record keeps V and advances. -/
def performZucGenks (c : Nat) (s : State) : State :=
  let r := (s.slot c).zuc
  setZuc (storeKeystream s (zucWords (opNwords s) r.gen)) c
    { r with gen := zucAfter (opNwords s) r.gen }

/-- ZUC.GENKS (R256). -/
def execZucGenks (c : Nat) (s : State) : Host.Outcome State Fault Refusal :=
  engineStep (check (.zucGenks c) s) (performZucGenks c) s

/-- The private generator of ZUC.EEA3 (R258). -/
def eea3Gen (s : State) : ZucGen :=
  zucInit s.key.bytes (eea3Iv s.count (opBearer s) (opDir s))

/-- The keystream ZUC.EEA3 applies: `ceil_div(L, 32)` words (R258), as bytes. -/
def zucEea3Bytes (s : State) : List Byte :=
  (zucWords (ceilDiv (opLength s) 32) (eea3Gen s)).flatMap wordBytes

/-- ZUC.EEA3 (R258): the EEA3 keystream onto the message in DBUF. -/
def performZucEea3 (s : State) : State := applyKeystream s (zucEea3Bytes s)

/-- ZUC.EEA3 (R258). -/
def execZucEea3 (s : State) : Host.Outcome State Fault Refusal :=
  engineStep (check .zucEea3 s) performZucEea3 s

/-- ZUC.EIA3 (R260): the EIA3 MAC of the message into RES0. It uses BEARER, not FRESH. -/
def performZucEia3 (s : State) : State :=
  setRes0 s (eia3Mac s.key.bytes s.count (opBearer s) (opDir s) (messageBits s))

/-- ZUC.EIA3 (R260). -/
def execZucEia3 (s : State) : Host.Outcome State Fault Refusal :=
  engineStep (check .zucEia3 s) performZucEia3 s

end Sys2Proof.Machine
end

