-- ==== Sys2Proof/Machine/Dispatch.lean ====
section
/-! DEFINITION. Dispatch of a decoded command to its meaning (30_encoding.md R113, R116). -/

namespace Sys2Proof.Machine

/-- The engine step of a decoded command. -/
def exec (i : Instr) (s : State) : Host.Outcome State Fault Refusal :=
  match i with
  | .nop => Sys2Proof.Machine.execNop s
  | .kasumiKs c => Sys2Proof.Machine.execKasumiKs c s
  | .kasumiEnc c => Sys2Proof.Machine.execKasumiEnc c s
  | .kasumiF8 => Sys2Proof.Machine.execKasumiF8 s
  | .kasumiF9 => Sys2Proof.Machine.execKasumiF9 s
  | .snow3gInit c => Sys2Proof.Machine.execSnow3gInit c s
  | .snow3gGenks c => Sys2Proof.Machine.execSnow3gGenks c s
  | .snow3gUea2 => Sys2Proof.Machine.execSnow3gUea2 s
  | .snow3gUia2 => Sys2Proof.Machine.execSnow3gUia2 s
  | .zucInit c => Sys2Proof.Machine.execZucInit c s
  | .zucGenks c => Sys2Proof.Machine.execZucGenks c s
  | .zucEea3 => Sys2Proof.Machine.execZucEea3 s
  | .zucEia3 => Sys2Proof.Machine.execZucEia3 s
  | .comp128V1 => Sys2Proof.Machine.execComp128V1 s
  | .comp128V2 => Sys2Proof.Machine.execComp128V2 s
  | .comp128V3 => Sys2Proof.Machine.execComp128V3 s
  | .keccakP1600 => Sys2Proof.Machine.execKeccakP1600 s
  | .ctxClear c => Sys2Proof.Machine.execCtxClear c s

end Sys2Proof.Machine
end

