-- ==== Sys2Proof/Machine/Step.lean ====
section
/-! DEFINITION. One step of the machine: the next event in store, or, when nothing is in store, the engine
step that is owed (20_memory.md R80, R94, 30_encoding.md R116, 70_reset_and_hazards.md R411). -/

namespace Sys2Proof.Machine

/-- The engine's turn: its one step, enabled exactly when STATUS.BUSY = 1 (R116). -/
def engineTurn (s : State) : Host.Outcome State Fault Refusal :=
  if s.status.busy then
    match decode (fetchCommand s) with
    | .error _ => .next (illegalCommand s)
    | .ok i => exec i s
  else .next (idleTurn s)

/-- One step: the first event in store happens; with nothing in store the engine has its turn. -/
def step (s : State) : Host.Outcome State Fault Refusal :=
  match s.bus with
  | [] => engineTurn s
  | .access a :: es => hostTurn a (setBus s es)
  | .engine :: es => engineTurn (setBus s es)
  | .reset :: es => .next (resetTurn (setBus s es))

/-- The state in which the command word `w` has just been accepted (30_encoding.md R115) and the engine
has the next turn: the very next step performs it. Log entry 12. -/
def State.withFetchWord (s : State) (nbits w : Nat) : State :=
  setBus (acceptCommand s (BitVec.ofNat 32 (w % 2 ^ nbits)))
    (match s.bus with
     | [] => []
     | e :: es => .engine :: e :: es)

end Sys2Proof.Machine
end

