-- ==== Sys2Proof/Machine/HostNotation.lean ====
section
/-! DEFINITION. The host notation of 30_encoding.md R119 and R120, as events in store for the block: every
line is one host bus access, or a pseudo-instruction that expands to some. -/

namespace Sys2Proof.Machine

/-- The window offset of a register (10_state.md R30). -/
def Reg.offset : Reg → BitVec 16
  | .id => 0x0000
  | .cmd => 0x0004
  | .status => 0x0008
  | .irqen => 0x000C
  | .length => 0x0010
  | .count => 0x0014
  | .bearer => 0x0018
  | .direction => 0x001C
  | .fresh => 0x0020
  | .nwords => 0x0024
  | .cfg => 0x0028
  | .key i => 0x0030 + BitVec.ofNat 16 (4 * i.val)
  | .iv i => 0x0040 + BitVec.ofNat 16 (4 * i.val)
  | .res i => 0x0050 + BitVec.ofNat 16 (4 * i.val)
  | .state k => 0x0100 + BitVec.ofNat 16 (4 * k)
  | .dbuf k => 0x1000 + BitVec.ofNat 16 (4 * k)

/-- `wr NAME, v` (R119). -/
def asmWr (r : Reg) (v : Word) : Event :=
  .access { kind := .write32, offset := r.offset, value := v }

/-- `rd NAME` (R119). -/
def asmRd (r : Reg) : Event := .access { kind := .read32, offset := r.offset, value := 0 }

/-- `cmd MNEMONIC c`: the command word written to CMD (R119). -/
def asmCmd (i : Instr) : Event := asmWr .cmd (encode i)

/-- `wait` (R120), in the run where `polls` reads of STATUS find BUSY = 1 before the engine's turn: the
loop on the host, unrolled (log entry 17). -/
def asmWait (polls : Nat) : List Event :=
  List.replicate polls (asmRd .status) ++ [.engine, asmRd .status]

/-- `run MNEMONIC c` (R120). -/
def asmRun (i : Instr) (polls : Nat) : List Event := asmCmd i :: asmWait polls

/-- `key K` (R120). -/
def asmKey (k : BitVec 128) : List Event :=
  [asmWr (.key 0) (k.extractLsb' 96 32), asmWr (.key 1) (k.extractLsb' 64 32),
   asmWr (.key 2) (k.extractLsb' 32 32), asmWr (.key 3) (k.extractLsb' 0 32)]

/-- `iv V` (R120). -/
def asmIv (v : BitVec 128) : List Event :=
  [asmWr (.iv 0) (v.extractLsb' 96 32), asmWr (.iv 1) (v.extractLsb' 64 32),
   asmWr (.iv 2) (v.extractLsb' 32 32), asmWr (.iv 3) (v.extractLsb' 0 32)]

/-- `ack` (R120): clears DONE and ERR. -/
def asmAck : Event := asmWr .status 0x00000006

/-- `load DBUF, b0 b1 …` (R120), from word `k` on; bytes missing in the last word are 0x00. -/
def asmLoad : Nat → List Byte → List Event
  | k, b0 :: b1 :: b2 :: b3 :: bs => asmWr (.dbuf k) (wordOfBytes b0 b1 b2 b3) :: asmLoad (k + 1) bs
  | _, [] => []
  | k, bs => [asmWr (.dbuf k) (wordOfBytes (bs.getD 0 0) (bs.getD 1 0) (bs.getD 2 0) 0)]

end Sys2Proof.Machine
end

