-- ==== Sys2Proof/Machine/Hosts.lean ====
section
/-! DEFINITION. The hosts and their duties (60_exceptions.md R376, 70_reset_and_hazards.md R404 to R406).
`step` is the block: its port takes whatever access arrives, one that breaks a duty included, and answers
it as 20_memory.md R84 to R86 say. `hostedStep` is the block together with its hosts, who have no move that
breaks a duty. Log entry 23. -/

namespace Sys2Proof.Machine

/-! ## Duties -/

/-- Where a host is in its sequence, from its first operand write to its last result read (R406). -/
inductive Phase where
  /-- It has written operands and not yet launched. -/
  | preparing
  /-- It has launched, and no read of STATUS has returned BUSY = 0 to it since. -/
  | launched
  /-- It has read BUSY = 0, and results are owed. -/
  | collecting
  deriving DecidableEq, Repr

/-- A stretch of the window, from offset `lo` up to and without `hi`, that holds results. As an owed result
it stands for at least one word to be read there: a RES register is one of its own, a command's result in
DBUF or STATE is one stretch (log entry 23). -/
structure Stretch where
  lo : Nat
  hi : Nat
  deriving DecidableEq, Repr

/-- The sequence in hand: the host that has exclusive use of the engine (R406), and the results of its
commands it has still to read before a command overwrites them. -/
structure Sequence where
  host : Nat
  phase : Phase
  owed : List Stretch
  deriving DecidableEq, Repr

/-- What happens next in the block and its hosts. An access names the host that makes it, which the block
does not see (60_exceptions.md R373); a launch may name window offsets of result words the host will read
beyond the least that every host must. -/
inductive Move where
  | access (host : Nat) (a : Access) (names : List (BitVec 16))
  | engine
  | reset
  deriving DecidableEq, Repr

/-- The block, the sequence in hand if any, and the moves in store, the next first. -/
structure Hosted where
  block : State
  seq : Option Sequence
  moves : List Move
  deriving DecidableEq, Repr

/-! ## Moves -/

/-- The access is a liberty at any time, for every host: a read of ID, STATUS, CFG or IRQEN, or a write of
IRQEN (R376, row "launch"). -/
def Access.isLiberty (a : Access) (p : Params) : Bool :=
  match Reg.ofOffset p a.offset.toNat with
  | some r => allowedWhileBusy a.kind r
  | none => false

/-- The access is a write of CMD. -/
def Access.isLaunch (a : Access) : Bool := a.kind == .write32 && a.offset == 0x0004

/-- The two stretches have an offset in common. -/
def Stretch.meets (d e : Stretch) : Bool := decide (d.lo < e.hi ∧ e.lo < d.hi)

/-- The word of RES `k` (10_state.md R44). -/
def resStretch (k : Nat) : Stretch := { lo := 0x0050 + 4 * k, hi := 0x0054 + 4 * k }

/-- The first `n` bytes of DBUF. -/
def dbufStretch (n : Nat) : Stretch := { lo := dbufBase, hi := dbufBase + n }

/-- The results a command writes where a host can read them (30_encoding.md R117): the RES registers of
10_state.md R44, STATE, or DBUF within the command's bounds (20_memory.md R88). -/
def resultsOf (i : Instr) (s : State) : List Stretch :=
  match i with
  | .nop => []
  | .kasumiKs _ => []
  | .kasumiEnc _ => [resStretch 0, resStretch 1]
  | .kasumiF8 => [dbufStretch (ceilDiv (opLength s) 8)]
  | .kasumiF9 => [resStretch 0]
  | .snow3gInit _ => []
  | .snow3gGenks _ => [dbufStretch (4 * opNwords s)]
  | .snow3gUea2 => [dbufStretch (ceilDiv (opLength s) 8)]
  | .snow3gUia2 => [resStretch 0]
  | .zucInit _ => []
  | .zucGenks _ => [dbufStretch (4 * opNwords s)]
  | .zucEea3 => [dbufStretch (ceilDiv (opLength s) 8)]
  | .zucEia3 => [resStretch 0]
  | .comp128V1 => [resStretch 0, resStretch 1, resStretch 2]
  | .comp128V2 => [resStretch 0, resStretch 1, resStretch 2]
  | .comp128V3 => [resStretch 0, resStretch 1, resStretch 2]
  | .keccakP1600 => [{ lo := stateBase, hi := stateBase + 200 }]
  | .ctxClear _ => []

/-- The results the word `w` will write when it is launched in state `s`: none where it is illegal or fails
Check (60_exceptions.md R365). Nothing Check reads can change before the engine step (20_memory.md R98). -/
def launchResults (w : Word) (s : State) : List Stretch :=
  match decode w with
  | .error _ => []
  | .ok i => if check i s = .none then (resultsOf i s).filter (fun d => d.lo < d.hi) else []

/-- What a command that writes `d` overwrites: all of RES where `d` is one of them, since a host must read
RES before it launches the next KASUMI.ENC, MAC or COMP128 command (70_reset_and_hazards.md R405); else
`d` itself. -/
def Stretch.group (d : Stretch) : Stretch :=
  if d.meets { lo := 0x0050, hi := 0x0060 } then { lo := 0x0050, hi := 0x0060 } else d

/-- Launched in state `s`, the word `w` would overwrite results in `d`. -/
def overwrites (w : Word) (s : State) (d : Stretch) : Bool :=
  (launchResults w s).any (fun e => e.group.meets d)

/-- What a launch of `w` in state `s` leaves its host to read: every result of the command, and of the
words the host names those among the results. -/
def launchOwes (w : Word) (s : State) (names : List (BitVec 16)) : List Stretch :=
  launchResults w s ++
    (names.map (fun o => ({ lo := o.toNat, hi := o.toNat + 4 } : Stretch))).filter
      (fun d => (launchResults w s).any (fun e => e.meets d))

/-- The access is a move host `n` has (R376). A liberty always is. Any other access must come from the
host whose sequence is in hand (row "share"), not between its launch and its reading BUSY = 0 (rows
"launch" and "complete"), and not launch a command that overwrites results still owed (row "collect"). -/
def mayMove (n : Nat) (a : Access) (q : Option Sequence) (s : State) : Bool :=
  a.isLiberty s.params ||
  (match q with
   | none => true
   | some q => q.host == n && q.phase != .launched &&
      !(a.isLaunch && q.owed.any (overwrites a.value s)))

/-! ## The sequence in hand after a move -/

/-- The results still owed. -/
def owedOf (q : Option Sequence) : List Stretch :=
  match q with
  | none => []
  | some q => q.owed

/-- The registers a host writes to set operands (R376, row "set operands"). -/
def Reg.isOperand : Reg → Bool
  | .id => false
  | .cmd => false
  | .status => false
  | .irqen => false
  | .length => true
  | .count => true
  | .bearer => true
  | .direction => true
  | .fresh => true
  | .nwords => true
  | .cfg => false
  | .key _ => true
  | .iv _ => true
  | .res _ => false
  | .state _ => true
  | .dbuf _ => true

/-- What is left of an owed result after the host itself has written the word at `off`: the stretches on
either side that the write leaves. -/
def Stretch.without (off : Nat) (d : Stretch) : List Stretch :=
  if d.meets { lo := off, hi := off + 4 } then
    [{ d with hi := off }, { d with lo := off + 4 }].filter (fun e => e.lo < e.hi)
  else [d]

/-- Host `n` has written `v` at `off`, register `r`: a launch or an operand write opens its sequence or goes
on in it. -/
def afterWrite (n : Nat) (r : Reg) (a : Access) (names : List (BitVec 16)) (s : State)
    (q : Option Sequence) : Option Sequence :=
  if r = .cmd then
    some { host := n, phase := .launched, owed := owedOf q ++ launchOwes a.value s names }
  else if r.isOperand then
    some { host := n, phase := .preparing, owed := (owedOf q).flatMap (Stretch.without a.offset.toNat) }
  else q

/-- The sequence ends where nothing is left to collect. DESIGN CHOICE (log entry 23): how long exclusive use
lasts over several commands is open in R406, which says "from its first operand write to its last result
read"; R376 serializes launch-to-collect sequences. The model takes one launch-to-collect sequence as the
unit: a command without results (KASUMI.KS, the INIT commands, an error) frees the engine when its host
reads BUSY = 0, another command when its last owed result is read, and another host may then change
operands that were meant for a next command. A host that writes an operand before it reads the last result
keeps the engine for its next command. -/
def collectOrEnd (n : Nat) (owed : List Stretch) : Option Sequence :=
  if owed = [] then none else some { host := n, phase := .collecting, owed := owed }

/-- Its host has read the word at `off`, `idle` where that was STATUS with BUSY = 0: what is owed there is
collected, and BUSY = 0 ends the wait for completion. -/
def Sequence.afterRead (q : Sequence) (off : Nat) (idle : Bool) : Option Sequence :=
  let owed := q.owed.filter (fun d => !d.meets { lo := off, hi := off + 4 })
  match q.phase with
  | .preparing => some { q with owed := owed }
  | .launched => if idle then collectOrEnd q.host q.owed else some q
  | .collecting => collectOrEnd q.host owed

/-- The sequence in hand after host `n`'s access in block state `s`. A bus error and another host's read
leave it. -/
def seqAfter (n : Nat) (a : Access) (names : List (BitVec 16)) (s : State) (q : Option Sequence) :
    Option Sequence :=
  match accessTarget a s with
  | none => q
  | some r =>
    if a.kind = .write32 then afterWrite n r a names s q
    else
      match q with
      | none => none
      | some p => if p.host = n then p.afterRead a.offset.toNat (r == .status && !s.status.busy) else q

/-! ## The step of block and hosts -/

/-- The outcome of the block's step, with what the hosts are left with. -/
def withHosts (o : Host.Outcome State Fault Refusal) (q : Option Sequence) (ms : List Move) :
    Host.Outcome Hosted Fault Refusal :=
  match o with
  | .next t => .next { block := t, seq := q, moves := ms }
  | .fault f => .fault f
  | .refused r => .refused r

/-- One step of the block and its hosts: the next move happens, if its host has it; a reset ends the
sequence in hand; with no move in store the engine has its turn. -/
def hostedStep (h : Hosted) : Host.Outcome Hosted Fault Refusal :=
  match h.moves with
  | [] => withHosts (step (setBus h.block [])) h.seq []
  | .access n a rs :: ms =>
    if mayMove n a h.seq h.block then
      withHosts (step (setBus h.block [.access a])) (seqAfter n a rs h.block h.seq) ms
    else .fault .dutyBroken
  | .engine :: ms => withHosts (step (setBus h.block [.engine])) h.seq ms
  | .reset :: ms => withHosts (step (setBus h.block [.reset])) none ms

/-- While a command is in flight, the host that launched it has not read BUSY = 0. -/
def Hosted.consistent (h : Hosted) : Bool :=
  !h.block.status.busy ||
    (match h.seq with
     | none => false
     | some q => q.phase == .launched)

end Sys2Proof.Machine
end

