-- ==== Sys2Proof/Safety.lean ====
section
/-! DEFINITION. What counts as a safe run, in the terms the statements use: the relations between fields
that every step keeps, the end of a run (70_reset_and_hazards.md R410), and which parts of two states
the host may see. -/

namespace Sys2Proof.Machine

/-- STATUS says one thing (10_state.md R33, 30_encoding.md R115): ERRCODE is 0 when ERR = 0 and names an
error when ERR = 1; while BUSY = 1 neither DONE nor ERR is set. -/
def Status.consistent (st : Status) : Bool :=
  (st.err == decide (st.errcode ≠ .none)) && (!st.busy || (!st.done && !st.err))

/-- The window offset of a byte of STATE or of DBUF (R45, R46). -/
def bufferOffset (p : Params) (a : Nat) : Bool :=
  (decide (stateBase ≤ a) && decide (a < stateBase + 200)) ||
  (decide (dbufBase ≤ a) && decide (a < dbufBase + p.dbufBytes))

/-- Every cell of the LFSR is in the range 1 to 2^31 − 1 (R53). -/
def Lfsr.nonzero (l : Lfsr 31) : Bool :=
  [l.s0, l.s1, l.s2, l.s3, l.s4, l.s5, l.s6, l.s7, l.s8, l.s9, l.s10, l.s11, l.s12, l.s13, l.s14,
    l.s15].all (fun v => v != 0)

/-- A valid ZUC record's cells are in range (R53); an invalid record's are not read. -/
def ZucRecord.inRange (r : ZucRecord) : Bool := !r.valid || r.gen.lfsr.nonzero

/-- The relations between the fields of the state that every step keeps. -/
structure State.Inv (s : State) : Prop where
  /-- The parameters are legal (00_scope.md R8). -/
  params : s.params.legal = true
  /-- STATUS says one thing (R33). -/
  status : s.status.consistent = true
  /-- Memory is in canonical form. -/
  memWf : s.mem.wf = true
  /-- Only bytes of STATE and DBUF are listed (R45, R46). -/
  memIn : ∀ x ∈ s.mem, bufferOffset s.params x.1 = true
  /-- There are N_CTX slots (R50). -/
  slots : s.ctx.length = s.params.nCtx
  /-- Every valid ZUC record's cells are in range (R53). -/
  zuc : ∀ x ∈ s.ctx, x.zuc.inRange = true

/-- A run is over (R410): the host has made its last access, the engine is idle, no fault is recorded.
DESIGN CHOICE (log entry 24): R410 says nothing of a reset during the run. The whole store of events must be
empty, so a reset or an engine turn still in store after the last access has to happen first; and a run that
passed through a reset is counted over like any other, its final state being the one after the reset and
what followed it. -/
def State.runOver (s : State) : Bool :=
  s.bus == [] && !s.status.busy && s.faults == []

end Sys2Proof.Machine
end

