-- ==== Sys2Proof/Certificates/Slice0/Obligations.lean ====
section
/-! DEFINITION. The statements of slice 0, each a reading of rules of spec/. The names of `Claims` are
words the statements share, written from the rules and not from the model. -/

open Sys2Proof Sys2Proof.Machine

/-! ## Words the statements share -/

/-- The 18 OP values of 30_encoding.md R113. -/
def Claims.definedOps : List Nat :=
  [0x00, 0x01, 0x02, 0x03, 0x04, 0x11, 0x12, 0x13, 0x14, 0x21, 0x22, 0x23, 0x24, 0x31, 0x32, 0x33,
   0x41, 0xF0]

/-- The OP values marked "ctx" in R113. -/
def Claims.ctxOps : List Nat := [0x01, 0x02, 0x11, 0x12, 0x21, 0x22, 0xF0]

/-- The commands that use BEARER (60_exceptions.md R362): KASUMI.F8, SNOW3G.UEA2, ZUC.EEA3, ZUC.EIA3. -/
def Claims.bearerOps : List Nat := [0x03, 0x13, 0x23, 0x24]

/-- The commands that use DIRECTION, and those that use LENGTH (R362): those four, KASUMI.F9 and
SNOW3G.UIA2. -/
def Claims.modeOps : List Nat := [0x03, 0x13, 0x23, 0x24, 0x04, 0x14]

/-- OP, CTX and RSV of a command word (30_encoding.md R111). -/
def Claims.op (w : Word) : Nat := w.toNat % 256
def Claims.ctx (w : Word) : Nat := w.toNat / 256 % 16
def Claims.rsv (w : Word) : Nat := w.toNat / 4096

/-- The command word is illegal (30_encoding.md R114). -/
abbrev Claims.Illegal (w : Word) : Prop :=
  Claims.op w ∉ Claims.definedOps ∨ Claims.rsv w ≠ 0 ∨
    (Claims.op w ∉ Claims.ctxOps ∧ Claims.ctx w ≠ 0)

/-- `Check(w)` read off the table of 60_exceptions.md R362, on the word itself. -/
def Claims.check (w : Word) (s : State) : ErrCode :=
  if Claims.Illegal w then .illegal
  else if Claims.op w ∈ Claims.ctxOps ∧ s.params.nCtx ≤ Claims.ctx w then .param
  else if (Claims.op w ∈ Claims.bearerOps ∧ 31 < s.bearer.toNat) ∨
      (Claims.op w ∈ Claims.modeOps ∧ 1 < s.direction.toNat) then .param
  else if (Claims.op w ∈ Claims.modeOps ∧ 8 * s.params.dbufBytes < s.length.toNat) ∨
      ((Claims.op w = 0x12 ∨ Claims.op w = 0x22) ∧ s.params.dbufBytes / 4 < s.nwords.toNat) then
    .length
  else if (Claims.op w = 0x02 ∧ (s.slot (Claims.ctx w)).kas.valid = false) ∨
      (Claims.op w = 0x12 ∧ (s.slot (Claims.ctx w)).snow.valid = false) ∨
      (Claims.op w = 0x22 ∧ (s.slot (Claims.ctx w)).zuc.valid = false) then .noctx
  else .none

/-- STATUS after an engine step without error (30_encoding.md R116): BUSY ← 0, DONE ← 1. -/
def Claims.ok (s : State) : Status := { s.status with busy := false, done := true }

/-- STATUS after an engine step with error `e` (R116). -/
def Claims.err (s : State) (e : ErrCode) : Status :=
  { s.status with busy := false, done := true, err := true, errcode := e }

/-- The operands a confidentiality or integrity command checks are in range, BEARER among them. -/
def Claims.frameOk (s : State) : Prop :=
  s.bearer.toNat ≤ 31 ∧ s.direction.toNat ≤ 1 ∧ s.length.toNat ≤ 8 * s.params.dbufBytes

/-- The same for the commands that do not use BEARER (KASUMI.F9, SNOW3G.UIA2). -/
def Claims.freshOk (s : State) : Prop :=
  s.direction.toNat ≤ 1 ∧ s.length.toNat ≤ 8 * s.params.dbufBytes

/-- `BEARER << 27 | DIR << 26` as a 32-bit word (41_snow3g.md R208). -/
def Claims.bearerDir (s : State) : Word :=
  ((s.bearer.extractLsb' 0 5).zeroExtend 32 <<< 27) |||
    ((s.direction.extractLsb' 0 1).zeroExtend 32 <<< 26)

/-- The 128-bit key `KEY0 || KEY1 || KEY2 || KEY3`. -/
def Claims.key (s : State) : BitVec 128 := s.key.w0 ++ s.key.w1 ++ s.key.w2 ++ s.key.w3

/-- The key words of the SNOW 3G modes: `k3 = KEY0`, `k2 = KEY1`, `k1 = KEY2`, `k0 = KEY3` (R204). -/
def Claims.modeKeyWords (s : State) : Quad :=
  { w0 := s.key.w3, w1 := s.key.w2, w2 := s.key.w1, w3 := s.key.w0 }

/-- The message bits `MsgBit(0) .. MsgBit(L−1)` (20_memory.md R89). -/
def Claims.message (s : State) : List Bool := (List.range s.length.toNat).map (msgBit s)

/-- The words of `DBUF[0 .. 4n−1]`, big-endian. -/
def Claims.dbufWords (s : State) (n : Nat) : List Word :=
  (List.range n).map (fun j => readWord s (0x1000 + 4 * j))

/-- `t` is what ApplyKeystream with keystream bits `ks` makes of `s` (40_kasumi.md R150): message bits are
XORed, every other bit of DBUF and every byte below DBUF is kept. -/
def Claims.Applied (ks : Nat → Bool) (s t : State) : Prop :=
  (∀ i, i < s.length.toNat → msgBit t i = (msgBit s i ^^ ks i)) ∧
  (∀ i, s.length.toNat ≤ i → msgBit t i = msgBit s i) ∧
  (∀ a, a < 0x1000 → readByte t a = readByte s a)

/-- How many RES registers, from RES0 on, a command word's command writes (10_state.md R44). -/
def Claims.resCount (w : Word) : Nat :=
  if Claims.op w ∈ [0x31, 0x32, 0x33] then 3
  else if Claims.op w = 0x02 then 2
  else if Claims.op w ∈ [0x04, 0x14, 0x24] then 1
  else 0

/-- Bits `64 j` to `64 j + 63` of a bit string, the first most significant, as a number (00_scope.md
R13). -/
def Claims.block64 (bits : Nat → Bool) (j : Nat) : DWord :=
  BitVec.ofNat 64 ((List.range 64).foldl (fun v k => 2 * v + (bits (64 * j + k)).toNat) 0)

/-- Sixteen cells from their numbers. -/
def Claims.lfsr {w : Nat} (f : Nat → BitVec w) : Lfsr w :=
  { s0 := f 0, s1 := f 1, s2 := f 2, s3 := f 3, s4 := f 4, s5 := f 5, s6 := f 6, s7 := f 7, s8 := f 8,
    s9 := f 9, s10 := f 10, s11 := f 11, s12 := f 12, s13 := f 13, s14 := f 14, s15 := f 15 }

/-- The cells after a clock: `s(i) ← s(i+1)`, `s15 ← v` (41_snow3g.md R199, 42_zuc.md R249). -/
def Claims.shifted {w : Nat} (l : Lfsr w) (v : BitVec w) : Lfsr w :=
  Claims.lfsr (fun i => [l.s1, l.s2, l.s3, l.s4, l.s5, l.s6, l.s7, l.s8, l.s9, l.s10, l.s11, l.s12,
    l.s13, l.s14, l.s15].getD i v)

/-- `MULx(V, c)` (41_snow3g.md R191). -/
def Claims.mulx (c v : Byte) : Byte := (v <<< 1) ^^^ (if v.getLsbD 7 then c else 0)

/-- Four powers of MULx with 0xA9 side by side: MULα with 23, 245, 48, 239 (R192), DIVα with 16, 39, 6,
64 (R193). -/
def Claims.alpha (e0 e1 e2 e3 : Nat) (c : Byte) : Word :=
  iter (Claims.mulx 0xA9) e0 c ++ iter (Claims.mulx 0xA9) e1 c ++ iter (Claims.mulx 0xA9) e2 c ++
    iter (Claims.mulx 0xA9) e3 c

/-- S1 with SR and 0x1B (R196), S2 with SQ and 0x69 (R197). -/
def Claims.snowBox (box : Byte → Byte) (c : Byte) (w : Word) : Word :=
  let a : Nat → Byte := fun j => box (w.extractLsb' (24 - 8 * j) 8)
  let m : Nat → Byte := fun j => Claims.mulx c (a j)
  (m 0 ^^^ a 1 ^^^ a 2 ^^^ m 3 ^^^ a 3) ++ (m 0 ^^^ a 0 ^^^ m 1 ^^^ a 2 ^^^ a 3) ++
    (a 0 ^^^ m 1 ^^^ a 1 ^^^ m 2 ^^^ a 3) ++ (a 0 ^^^ a 1 ^^^ m 2 ^^^ a 2 ^^^ m 3)

/-- The word `F` of a clock of the FSM (R198). -/
def Claims.snowF (g : SnowGen) : Word := (g.lfsr.s15 + g.r1) ^^^ g.r2

/-- A clock of SNOW 3G: ClockFSM (R198), then ClockLFSR (R199) with `F` in initialisation mode, 0 in
keystream mode. -/
def Claims.snowStep (init : Bool) (g : SnowGen) : SnowGen :=
  { lfsr := Claims.shifted g.lfsr
      ((g.lfsr.s0 <<< 8) ^^^ Claims.alpha 23 245 48 239 (g.lfsr.s0.extractLsb' 24 8) ^^^ g.lfsr.s2 ^^^
        (g.lfsr.s11 >>> 8) ^^^ Claims.alpha 16 39 6 64 (g.lfsr.s11.extractLsb' 0 8) ^^^
        (if init then Claims.snowF g else 0))
    r1 := g.r2 + (g.r3 ^^^ g.lfsr.s5)
    r2 := Claims.snowBox srBox 0x1B g.r1
    r3 := Claims.snowBox sqBox 0x69 g.r2 }

/-- The 16 high and the 16 low bits of a ZUC cell (42_zuc.md R246). -/
def Claims.hi (v : BitVec 31) : HWord := v.extractLsb' 15 16
def Claims.lo (v : BitVec 31) : HWord := v.extractLsb' 0 16

/-- The word `W` of F (R247), from X0 (R246). -/
def Claims.zucW (g : ZucGen) : Word :=
  ((Claims.hi g.lfsr.s15 ++ Claims.lo g.lfsr.s14) ^^^ g.r1) + g.r2

/-- The new `s15` (R249): `u` is the initialisation input or 0; 2^31 − 1 stands for zero. -/
def Claims.zucCell (l : Lfsr 31) (u : Nat) : BitVec 31 :=
  let v := (2 ^ 15 * l.s15.toNat + 2 ^ 17 * l.s13.toNat + 2 ^ 21 * l.s10.toNat +
    2 ^ 20 * l.s4.toNat + (1 + 2 ^ 8) * l.s0.toNat + u) % (2 ^ 31 - 1)
  BitVec.ofNat 31 (if v = 0 then 2 ^ 31 - 1 else v)

/-- S(L(x)) of R244 and R245 with the rotations of L1 or of L2. -/
def Claims.zucSL (rot : List Nat) (x : Word) : Word :=
  let y := rot.foldl (fun v k => v ^^^ x.rotateLeft k) x
  zucS0 (y.extractLsb' 24 8) ++ zucS1 (y.extractLsb' 16 8) ++ zucS0 (y.extractLsb' 8 8) ++
    zucS1 (y.extractLsb' 0 8)

/-- A clock of ZUC: BitReorganization and F (R246, R247), then ClockLFSR (R249), with `W >> 1` in
initialisation mode (R251), with no input in work mode. -/
def Claims.zucStep (init : Bool) (g : ZucGen) : ZucGen :=
  let w1 := g.r1 + (Claims.lo g.lfsr.s11 ++ Claims.hi g.lfsr.s9)
  let w2 := g.r2 ^^^ (Claims.lo g.lfsr.s7 ++ Claims.hi g.lfsr.s5)
  { lfsr := Claims.shifted g.lfsr
      (Claims.zucCell g.lfsr (if init then (Claims.zucW g).toNat / 2 else 0))
    r1 := Claims.zucSL [2, 10, 18, 24] (w1.extractLsb' 0 16 ++ w2.extractLsb' 16 16)
    r2 := Claims.zucSL [8, 14, 22, 30] (w2.extractLsb' 0 16 ++ w1.extractLsb' 16 16) }

/-- `a +p b` with the carry added back in (R248). -/
def Claims.addCarry (a b : BitVec 31) : BitVec 31 :=
  if 2 ^ 31 ≤ a.toNat + b.toNat then BitVec.ofNat 31 ((a.toNat + b.toNat) % 2 ^ 31 + 1)
  else BitVec.ofNat 31 (a.toNat + b.toNat)

/-- The sum of R249 over rotated cells (R248). -/
def Claims.cellSum (l : Lfsr 31) : BitVec 31 :=
  Claims.addCarry (Claims.addCarry (Claims.addCarry (Claims.addCarry (Claims.addCarry
    (l.s15.rotateLeft 15) (l.s13.rotateLeft 17)) (l.s10.rotateLeft 21)) (l.s4.rotateLeft 20))
    (l.s0.rotateLeft 8)) l.s0

/-! ## Encoding -/

/-- Decoding an encoded well-formed command gives it back (30_encoding.md R111, R113). -/
def Obligations.DecodeOfEncodeIsIdentity : Prop :=
  ∀ i : Instr, i.wellFormed = true → decode (encode i) = .ok i

/-- Encoding a decoded word gives it back: every legal word has one meaning (R113, R114). -/
def Obligations.EncodeOfDecodeIsIdentity : Prop :=
  ∀ (w : Word) (i : Instr), decode w = .ok i → encode i = w ∧ i.wellFormed = true

/-- R113: the mask and match of each of the 18 commands. -/
def Obligations.CommandsMatchTheirMask : Prop :=
  ∀ w : Word,
    (decode w = .ok .nop ↔ w = 0x00000000) ∧
    (∀ c, decode w = .ok (.kasumiKs c) ↔ w &&& 0xFFFFF0FF = 0x00000001 ∧ c = Claims.ctx w) ∧
    (∀ c, decode w = .ok (.kasumiEnc c) ↔ w &&& 0xFFFFF0FF = 0x00000002 ∧ c = Claims.ctx w) ∧
    (decode w = .ok .kasumiF8 ↔ w = 0x00000003) ∧
    (decode w = .ok .kasumiF9 ↔ w = 0x00000004) ∧
    (∀ c, decode w = .ok (.snow3gInit c) ↔ w &&& 0xFFFFF0FF = 0x00000011 ∧ c = Claims.ctx w) ∧
    (∀ c, decode w = .ok (.snow3gGenks c) ↔ w &&& 0xFFFFF0FF = 0x00000012 ∧ c = Claims.ctx w) ∧
    (decode w = .ok .snow3gUea2 ↔ w = 0x00000013) ∧
    (decode w = .ok .snow3gUia2 ↔ w = 0x00000014) ∧
    (∀ c, decode w = .ok (.zucInit c) ↔ w &&& 0xFFFFF0FF = 0x00000021 ∧ c = Claims.ctx w) ∧
    (∀ c, decode w = .ok (.zucGenks c) ↔ w &&& 0xFFFFF0FF = 0x00000022 ∧ c = Claims.ctx w) ∧
    (decode w = .ok .zucEea3 ↔ w = 0x00000023) ∧
    (decode w = .ok .zucEia3 ↔ w = 0x00000024) ∧
    (decode w = .ok .comp128V1 ↔ w = 0x00000031) ∧
    (decode w = .ok .comp128V2 ↔ w = 0x00000032) ∧
    (decode w = .ok .comp128V3 ↔ w = 0x00000033) ∧
    (decode w = .ok .keccakP1600 ↔ w = 0x00000041) ∧
    (∀ c, decode w = .ok (.ctxClear c) ↔ w &&& 0xFFFFF0FF = 0x000000F0 ∧ c = Claims.ctx w)

/-- R114: which words are illegal, and that an illegal command finishes with ILLEGAL and changes nothing
else at the engine step. -/
def Obligations.IllegalWordsAreRefused : Prop :=
  (∀ w : Word, (∃ e, decode w = .error e) ↔ Claims.Illegal w) ∧
  (∀ s : State, s.status.busy = true → Claims.Illegal s.cmd →
    engineTurn s = .next { s with status := Claims.err s .illegal })

/-- Words written out from the table of R113 decode to their commands. -/
def Obligations.SampleWordsDecode : Prop :=
  decode 0x00000000 = .ok .nop ∧ decode 0x00000F02 = .ok (.kasumiEnc 15) ∧
  decode 0x00000312 = .ok (.snow3gGenks 3) ∧ decode 0x00000024 = .ok .zucEia3 ∧
  decode 0x00000033 = .ok .comp128V3 ∧ decode 0x00000041 = .ok .keccakP1600 ∧
  decode 0x000001F0 = .ok (.ctxClear 1) ∧ decode 0x00000103 = .error .ctxNotZero ∧
  decode 0x00001000 = .error .reservedBits ∧ decode 0x000000FF = .error .undefinedOp

/-! ## The step and the engine step -/

/-- When CMD holds a word that decodes to `i` and BUSY = 1, the engine's turn is `exec i`: at once with
nothing in store, and with its event taken off where the engine's turn is next in store (R116). An idle
engine does nothing (60_exceptions.md R375): with nothing in store the block stays as it is, and a turn
of the engine is only taken off the store. In every case the step is `engineTurn`, the engine's one
step, of which the statements below speak. That an empty store is the engine's turn is the model's
choice (log entries 1 and 2). -/
def Obligations.StepRunsTheDecodedCommand : Prop :=
  (∀ (s : State) (i : Instr), s.status.busy = true → decode s.cmd = .ok i →
    (s.bus = [] → step s = exec i s) ∧
    (∀ es, s.bus = .engine :: es → step s = exec i { s with bus := es })) ∧
  (∀ s : State, s.status.busy = false →
    (s.bus = [] → step s = .next s) ∧
    (∀ es, s.bus = .engine :: es → step s = .next { s with bus := es })) ∧
  (∀ s : State, (s.bus = [] → step s = engineTurn s) ∧
    (∀ es, s.bus = .engine :: es → step s = engineTurn { s with bus := es }))

/-- R116: every command's engine step ends, with BUSY = 0 and DONE = 1; ERR and ERRCODE are written
exactly when Check reports an error, and then with its code. -/
def Obligations.EngineStepAlwaysEnds : Prop :=
  ∀ (i : Instr) (s : State), ∃ t, exec i s = .next t ∧
    t.status = (if check i s = .none then Claims.ok s else Claims.err s (check i s))

/-- R362: the order of the checks, on the command word itself; the first that fails is reported. -/
def Obligations.ChecksInOrder : Prop :=
  ∀ s : State, s.status.busy = true →
    (Claims.check s.cmd s ≠ .none →
      engineTurn s = .next { s with status := Claims.err s (Claims.check s.cmd s) }) ∧
    (Claims.check s.cmd s = .none → ∃ t, engineTurn s = .next t ∧ t.status = Claims.ok s)

/-- R365: a command that finishes with an error writes STATUS only; launching it again on the state it
leaves gives the same error. -/
def Obligations.ErrorsWriteStatusOnly : Prop :=
  ∀ s t : State, s.status.busy = true → Claims.check s.cmd s ≠ .none →
    engineTurn s = .next t →
      t = { s with status := Claims.err s (Claims.check s.cmd s) } ∧
      ∃ u, engineTurn (acceptCommand t s.cmd) = .next u ∧ u.status.errcode = t.status.errcode ∧
        u.status.err = true

/-! ## Control commands -/

/-- R340: NOP completes and does nothing else; it can raise IRQ; with CTX or RSV not 0 the word is
illegal; after its acceptance and the engine step STATUS = 0x00000002. -/
def Obligations.NopOnlyCompletes : Prop :=
  (∀ s : State, exec .nop s = .next { s with status := Claims.ok s }) ∧
  (∀ s t : State, exec .nop s = .next t → t.irq = s.doneie) ∧
  (∀ w : Word, Claims.op w = 0 → (Claims.ctx w ≠ 0 ∨ Claims.rsv w ≠ 0) →
    ∃ e, decode w = .error e) ∧
  encode .nop = 0x00000000 ∧
  (∀ s t : State, exec .nop (acceptCommand s 0x00000000) = .next t →
    t.status.word = 0x00000002)

/-- R341: CTX.CLEAR clears the three records of its slot and leaves the other slots alone; after it the
commands that read a record of the slot finish with NOCTX. -/
def Obligations.CtxClearResult : Prop :=
  ∀ (c : Nat) (s : State), c < s.params.nCtx → s.ctx.length = s.params.nCtx →
    ∃ t, exec (.ctxClear c) s = .next t ∧
      t = { s with ctx := t.ctx, status := Claims.ok s } ∧
      t.slot c =
        { kas := { valid := false, keys := .zero }
          snow := { valid := false, gen := { lfsr := .zero 32, r1 := 0, r2 := 0, r3 := 0 } }
          zuc := { valid := false, gen := { lfsr := .zero 31, r1 := 0, r2 := 0 } } } ∧
      (∀ d, d ≠ c → t.slot d = s.slot d) ∧
      exec (.kasumiEnc c) t = .next { t with status := Claims.err t .noctx } ∧
      (s.nwords.toNat ≤ s.params.dbufBytes / 4 →
        exec (.snow3gGenks c) t = .next { t with status := Claims.err t .noctx } ∧
        exec (.zucGenks c) t = .next { t with status := Claims.err t .noctx })

/-! ## KASUMI -/

/-- R152: KASUMI.KS writes the subkeys of KEY to `ctx.KAS[c]` and sets V; nothing else changes. -/
def Obligations.KasumiKsResult : Prop :=
  ∀ (c : Nat) (s : State), c < s.params.nCtx → s.ctx.length = s.params.nCtx →
    ∃ t, exec (.kasumiKs c) s = .next t ∧
      t = { s with ctx := t.ctx, status := Claims.ok s } ∧
      t.slot c = { s.slot c with kas := { valid := true, keys := keySchedule (Claims.key s) } } ∧
      (∀ d, d ≠ c → t.slot d = s.slot d)

/-- R153: KASUMI.ENC writes the ciphertext of IV0 || IV1 to RES0 and RES1; nothing else changes. -/
def Obligations.KasumiEncResult : Prop :=
  ∀ (c : Nat) (s : State), c < s.params.nCtx → (s.slot c).kas.valid = true →
    exec (.kasumiEnc c) s = .next
      { s with
        res := { s.res with
          w0 := (kasumi (s.slot c).kas.keys (s.iv.w0 ++ s.iv.w1)).extractLsb' 32 32
          w1 := (kasumi (s.slot c).kas.keys (s.iv.w0 ++ s.iv.w1)).extractLsb' 0 32 }
        status := Claims.ok s }

/-- R150, R156: KASUMI.F8 XORs bit `i` of the message with bit `63 − (i mod 64)` of keystream block
`1 + i div 64`, keeps every other bit of DBUF, and changes nothing else. -/
def Obligations.KasumiF8Result : Prop :=
  ∀ s : State, Claims.frameOk s →
    ∃ t, exec .kasumiF8 s = .next t ∧ t = { s with mem := t.mem, status := Claims.ok s } ∧
      Claims.Applied
        (fun i => ((f8Keystream (Claims.key s) s.count (s.bearer.extractLsb' 0 5)
          (s.direction.getLsbD 0) (ceilDiv s.length.toNat 64)).getD (i / 64) 0).getLsbD
            (63 - i % 64)) s t

/-- R157, R158: KASUMI.F9 writes to RES0 the f9 MAC of the message bits: the chain
`A ← KASUMI_IK(A ⊕ PSj)`, `Bacc ← Bacc ⊕ A` over the blocks of the padded string (its fields:
F9StringFillsBlocks), then bits 63:32 of KASUMI of `Bacc` under IK with every byte XORed with 0xAA (R149);
nothing else changes. -/
def Obligations.KasumiF9Result : Prop :=
  ∀ s : State, Claims.freshOk s →
    let ps := f9String s.count s.fresh (s.direction.getLsbD 0) (Claims.message s)
    let chain : DWord × DWord := (List.range (ceilDiv (s.length.toNat + 66) 64)).foldl
      (fun x j =>
        let a := kasumi (keySchedule (Claims.key s)) (x.1 ^^^ Claims.block64 (fun i => ps.getD i false) j)
        (a, x.2 ^^^ a)) (0, 0)
    exec .kasumiF9 s = .next
      { s with
        res := { s.res with
          w0 := (kasumi (keySchedule (Claims.key s ^^^ 0xAAAAAAAAAAAAAAAAAAAAAAAAAAAAAAAA))
            chain.2).extractLsb' 32 32 }
        status := Claims.ok s }

/-- R154: the f8 keystream's recurrence. `A` has COUNT in bits 63:32, BEARER in 31:27, DIR in 26;
`A' = KASUMI_{CK ⊕ KM8}(A)`; `KSB(n+1) = KASUMI_CK(A' ⊕ n ⊕ KSB(n))` with `KSB(0) = 0`; there are `B`
blocks. R156, corner cases: the keystream does not depend on the length, so fewer blocks are the
beginning of more. -/
def Obligations.F8KeystreamRecurrence : Prop :=
  ∀ (ck : BitVec 128) (count : Word) (bearer : BitVec 5) (dir : Bool) (b : Nat),
    let a' := kasumi (keySchedule (ck ^^^ 0x55555555555555555555555555555555))
      (BitVec.ofNat 64 (count.toNat * 2 ^ 32 + bearer.toNat * 2 ^ 27 + dir.toNat * 2 ^ 26))
    let ks := f8Keystream ck count bearer dir b
    ks.length = b ∧
    (∀ n, n < b → ks.getD n 0 =
      kasumi (keySchedule ck) (a' ^^^ BitVec.ofNat 64 n ^^^
        (if n = 0 then 0 else ks.getD (n - 1) 0))) ∧
    (∀ b', b ≤ b' → ks = (f8Keystream ck count bearer dir b').take b)

/-- R144: `K1 = KEY0[31:16]` to `K8 = KEY3[15:0]`, `K'j = Kj ⊕ Cj`, and the subkeys of round `i`. -/
def Obligations.KasumiKeyWordsFromRegisters : Prop :=
  ∀ q : Quad,
    let k : List HWord :=
      [q.w0.extractLsb' 16 16, q.w0.extractLsb' 0 16, q.w1.extractLsb' 16 16,
       q.w1.extractLsb' 0 16, q.w2.extractLsb' 16 16, q.w2.extractLsb' 0 16,
       q.w3.extractLsb' 16 16, q.w3.extractLsb' 0 16]
    let c : List HWord := [0x0123, 0x4567, 0x89AB, 0xCDEF, 0xFEDC, 0xBA98, 0x7654, 0x3210]
    let kk : Nat → HWord := fun n => k.getD ((n - 1) % 8) 0
    let kc : Nat → HWord := fun n => kk n ^^^ c.getD ((n - 1) % 8) 0
    let rk := keySchedule (q.w0 ++ q.w1 ++ q.w2 ++ q.w3)
    ∀ i, 1 ≤ i → i ≤ 8 →
      [rk.r1, rk.r2, rk.r3, rk.r4, rk.r5, rk.r6, rk.r7, rk.r8].getD (i - 1) .zero =
        { kl1 := (kk i).rotateLeft 1, kl2 := kc (i + 2)
          ko1 := (kk (i + 1)).rotateLeft 5, ko2 := (kk (i + 5)).rotateLeft 8
          ko3 := (kk (i + 6)).rotateLeft 13
          ki1 := kc (i + 4), ki2 := kc (i + 3), ki3 := kc (i + 7) }

/-- R145 to R148: FI, FO, FL and the eight rounds. R159: the Feistel structure is invertible: under any
subkeys distinct blocks have distinct ciphertexts. -/
def Obligations.KasumiIsInvertible : Prop :=
  (∀ i ki : HWord,
    let nine := s9 (i.extractLsb' 7 9) ^^^ (i.extractLsb' 0 7).zeroExtend 9
    let seven := s7 (i.extractLsb' 0 7) ^^^ nine.extractLsb' 0 7
    let seven' := seven ^^^ ki.extractLsb' 9 7
    let nine' := s9 (nine ^^^ ki.extractLsb' 0 9) ^^^ seven'.zeroExtend 9
    kasumiFI i ki = (s7 seven' ^^^ nine'.extractLsb' 0 7) ++ nine') ∧
  (∀ (k : RoundKeys) (x : Word),
    let l := x.extractLsb' 16 16
    let r := x.extractLsb' 0 16
    let t1 := kasumiFI (l ^^^ k.ko1) k.ki1 ^^^ r
    let t2 := kasumiFI (r ^^^ k.ko2) k.ki2 ^^^ t1
    let t3 := kasumiFI (t1 ^^^ k.ko3) k.ki3 ^^^ t2
    let r' := r ^^^ (l &&& k.kl1).rotateLeft 1
    kasumiFO k x = t2 ++ t3 ∧ kasumiFL k x = (l ^^^ (r' ||| k.kl2).rotateLeft 1) ++ r') ∧
  (∀ (rk : RoundKeySet) (x : DWord),
    let k : Nat → RoundKeys := fun i =>
      [rk.r1, rk.r2, rk.r3, rk.r4, rk.r5, rk.r6, rk.r7, rk.r8].getD (i - 1) .zero
    let f : Nat → Word → Word := fun i v =>
      if i % 2 = 1 then kasumiFO (k i) (kasumiFL (k i) v) else kasumiFL (k i) (kasumiFO (k i) v)
    let y : Word × Word := [1, 2, 3, 4, 5, 6, 7, 8].foldl (fun p i => (p.2 ^^^ f i p.1, p.1))
      (x.extractLsb' 32 32, x.extractLsb' 0 32)
    kasumi rk x = y.1 ++ y.2) ∧
  ∀ rk : RoundKeySet, Function.Bijective (kasumi rk)

/-- R157: the padded string fills `B = ceil_div(L + 66, 64)` blocks, at least two; it is COUNT, FRESH,
the message, DIR, a 1, zeros. -/
def Obligations.F9StringFillsBlocks : Prop :=
  ∀ (count fresh : Word) (dir : Bool) (msg : List Bool),
    (f9String count fresh dir msg).length = 64 * ceilDiv (msg.length + 66) 64 ∧
    2 ≤ ceilDiv (msg.length + 66) 64 ∧
    64 * ceilDiv (msg.length + 66) 64 < msg.length + 66 + 64 ∧
    (∀ i, i < 32 → (f9String count fresh dir msg).getD i false = count.getLsbD (31 - i)) ∧
    (∀ i, i < 32 → (f9String count fresh dir msg).getD (32 + i) false = fresh.getLsbD (31 - i)) ∧
    (∀ i, i < msg.length → (f9String count fresh dir msg).getD (64 + i) false = msg.getD i false) ∧
    (f9String count fresh dir msg).getD (64 + msg.length) false = dir ∧
    (f9String count fresh dir msg).getD (65 + msg.length) false = true ∧
    (∀ i, 66 + msg.length ≤ i → (f9String count fresh dir msg).getD i false = false)

/-! ## SNOW 3G -/

/-- R205: SNOW3G.INIT writes the initialised generator to `ctx.SNOW[c]` and sets V. R200, R201: the
generator is loaded from key and IV words, then clocked 32 times in initialisation mode (R198, R199) and
once in keystream mode. -/
def Obligations.Snow3gInitResult : Prop :=
  (∀ (c : Nat) (s : State), c < s.params.nCtx → s.ctx.length = s.params.nCtx →
    ∃ t, exec (.snow3gInit c) s = .next t ∧
      t = { s with ctx := t.ctx, status := Claims.ok s } ∧
      t.slot c = { s.slot c with snow := { valid := true, gen := snowInit s.key s.iv } } ∧
      (∀ d, d ≠ c → t.slot d = s.slot d)) ∧
  ∀ k iv : Quad,
    let cells : List Word :=
      [~~~k.w0, ~~~k.w1, ~~~k.w2, ~~~k.w3, k.w0, k.w1, k.w2, k.w3, ~~~k.w0, ~~~k.w1 ^^^ iv.w3,
       ~~~k.w2 ^^^ iv.w2, ~~~k.w3, k.w0 ^^^ iv.w1, k.w1, k.w2, k.w3 ^^^ iv.w0]
    snowInit k iv = Claims.snowStep false (iter (Claims.snowStep true) 32
      { lfsr := Claims.lfsr (fun i => cells.getD i 0), r1 := 0, r2 := 0, r3 := 0 })

/-- R206: SNOW3G.GENKS writes `n` keystream words to DBUF and advances the record. R202: keystream word
`k + 1` is `F ⊕ s0` of the generator after `k` clocks in keystream mode (R198, R199). -/
def Obligations.Snow3gGenksResult : Prop :=
  (∀ (n : Nat) (g : SnowGen),
    let after : Nat → SnowGen := fun k => iter (Claims.snowStep false) k g
    snowWords n g = (List.range n).map (fun k => Claims.snowF (after k) ^^^ (after k).lfsr.s0) ∧
    snowAfter n g = after n) ∧
  ∀ (c : Nat) (s : State), c < s.params.nCtx → s.ctx.length = s.params.nCtx →
    s.nwords.toNat ≤ s.params.dbufBytes / 4 → (s.slot c).snow.valid = true →
    ∃ t, exec (.snow3gGenks c) s = .next t ∧
      t = { s with mem := t.mem, ctx := t.ctx, status := Claims.ok s } ∧
      Claims.dbufWords t s.nwords.toNat = snowWords s.nwords.toNat (s.slot c).snow.gen ∧
      (∀ a, a < 0x1000 ∨ 0x1000 + 4 * s.nwords.toNat ≤ a → readByte t a = readByte s a) ∧
      t.slot c = { s.slot c with
        snow := { valid := true, gen := snowAfter s.nwords.toNat (s.slot c).snow.gen } } ∧
      (∀ d, d ≠ c → t.slot d = s.slot d)

/-- R207: the streaming law of SNOW 3G, over two commands. -/
def Obligations.Snow3gStreamingLaw : Prop :=
  ∀ (c : Nat) (s : State) (n1 n2 : Word), c < s.params.nCtx → s.ctx.length = s.params.nCtx →
    (s.slot c).snow.valid = true →
    n1.toNat ≤ s.params.dbufBytes / 4 → n2.toNat ≤ s.params.dbufBytes / 4 →
    ∃ t u, exec (.snow3gGenks c) { s with nwords := n1 } = .next t ∧
      exec (.snow3gGenks c) { t with nwords := n2 } = .next u ∧
      Claims.dbufWords t n1.toNat ++ Claims.dbufWords u n2.toNat =
        snowWords (n1.toNat + n2.toNat) (s.slot c).snow.gen ∧
      (u.slot c).snow =
        { valid := true, gen := snowAfter (n1.toNat + n2.toNat) (s.slot c).snow.gen }

/-- R208: SNOW3G.UEA2 XORs bit `i` of the message with bit `31 − (i mod 32)` of keystream word
`i div 32` of a private generator; the IV and key words are those of R208 and R204. -/
def Obligations.Snow3gUea2Result : Prop :=
  ∀ s : State, Claims.frameOk s →
    ∃ t, exec .snow3gUea2 s = .next t ∧ t = { s with mem := t.mem, status := Claims.ok s } ∧
      Claims.Applied
        (fun i => ((snowWords (ceilDiv s.length.toNat 32)
          (snowInit (Claims.modeKeyWords s)
            { w0 := Claims.bearerDir s, w1 := s.count, w2 := Claims.bearerDir s,
              w3 := s.count })).getD (i / 32) 0).getLsbD (31 - i % 32)) s t

/-- R210, R211: SNOW3G.UIA2 writes to RES0 the UIA2 MAC of the message bits, written out: IV0 = FRESH ⊕
DIR << 15, IV1 = COUNT ⊕ DIR << 31, IV2 = FRESH, IV3 = COUNT; five keystream words; EVAL over the message
blocks by MUL64 (R209) with P = z1 || z2; the XOR with L; MUL64 with Q = z3 || z4; bits 63:32 XORed with
z5; nothing else changes. -/
def Obligations.Snow3gUia2Result : Prop :=
  ∀ s : State, Claims.freshOk s →
    let dir : Word := (s.direction.extractLsb' 0 1).zeroExtend 32
    let zs := snowWords 5 (snowInit (Claims.modeKeyWords s)
      { w0 := s.fresh ^^^ (dir <<< 15), w1 := s.count ^^^ (dir <<< 31), w2 := s.fresh, w3 := s.count })
    let z : Nat → Word := fun n => zs.getD (n - 1) 0
    let mulx : DWord → DWord := fun v => (v <<< 1) ^^^ (if v.getLsbD 63 then 0x1B else 0)
    let mul : DWord → DWord → DWord := fun v p =>
      (List.range 64).foldl (fun acc i => if p.getLsbD i then acc ^^^ iter mulx i v else acc) 0
    let block := Claims.block64 (fun i => decide (i < s.length.toNat) && msgBit s i)
    let eval := (List.range (ceilDiv s.length.toNat 64)).foldl
      (fun e j => mul (e ^^^ block j) (z 1 ++ z 2)) 0
    exec .snow3gUia2 s = .next
      { s with
        res := { s.res with
          w0 := (mul (eval ^^^ BitVec.ofNat 64 s.length.toNat) (z 3 ++ z 4)).extractLsb' 32 32 ^^^ z 5 }
        status := Claims.ok s }

/-- R210, R259: the MAC of the empty message: UIA2's is `z5`, EIA3's is `k(0) ⊕ k(32)`, the XOR of the
first two keystream words. -/
def Obligations.EmptyMessageMacs : Prop :=
  ∀ s : State, s.direction.toNat ≤ 1 → s.length = 0 →
    (∃ t, exec .snow3gUia2 s = .next t ∧
      t.res.w0 = (snowWords 5 (snowInit (Claims.modeKeyWords s)
        (uia2Iv s.count s.fresh (s.direction.getLsbD 0)))).getD 4 0) ∧
    (s.bearer.toNat ≤ 31 → ∃ t, exec .zucEia3 s = .next t ∧
      let g := zucInit s.key.bytes
        (eia3Iv s.count (s.bearer.extractLsb' 0 5) (s.direction.getLsbD 0))
      t.res.w0 = zucWord g ^^^ zucWord (zucClock g))

/-! ## ZUC -/

/-- R255: ZUC.INIT writes the initialised generator to `ctx.ZUC[c]` and sets V; every cell of the new
record is in 1 to 2^31 − 1. R42, R43, R254: byte `4 i + j` of KEY or IV is bits `31 − 8 j : 24 − 8 j` of
register `i`. R250, R251: the generator is loaded from key and IV bytes and the loading
constants, then clocked 32 times in initialisation mode (R246, R247, R249) and once in work mode. -/
def Obligations.ZucInitResult : Prop :=
  (∀ (c : Nat) (s : State), c < s.params.nCtx → s.ctx.length = s.params.nCtx →
    ∃ t, exec (.zucInit c) s = .next t ∧
      t = { s with ctx := t.ctx, status := Claims.ok s } ∧
      t.slot c =
        { s.slot c with zuc := { valid := true, gen := zucInit s.key.bytes s.iv.bytes } } ∧
      (t.slot c).zuc.gen.lfsr.nonzero = true ∧
      (∀ d, d ≠ c → t.slot d = s.slot d)) ∧
  (∀ q : Quad, q.bytes.length = 16 ∧ ∀ i j, i < 4 → j < 4 →
    q.bytes.getD (4 * i + j) 0 = ([q.w0, q.w1, q.w2, q.w3].getD i 0).extractLsb' (24 - 8 * j) 8) ∧
  ∀ k iv : List Byte,
    zucInit k iv = Claims.zucStep false (iter (Claims.zucStep true) 32
      { lfsr := Claims.lfsr (fun i => BitVec.ofNat 31
          ((k.getD i 0).toNat * 2 ^ 23 + (zucD.getD i 0).toNat * 2 ^ 8 + (iv.getD i 0).toNat))
        r1 := 0, r2 := 0 })

/-- R256: ZUC.GENKS writes `n` keystream words to DBUF and advances the record. R252: keystream word
`k + 1` is `W ⊕ X3` of the generator after `k` clocks in work mode (R246, R247, R249). -/
def Obligations.ZucGenksResult : Prop :=
  (∀ (n : Nat) (g : ZucGen),
    let after : Nat → ZucGen := fun k => iter (Claims.zucStep false) k g
    zucWords n g = (List.range n).map (fun k =>
      Claims.zucW (after k) ^^^ (Claims.lo (after k).lfsr.s2 ++ Claims.hi (after k).lfsr.s0)) ∧
    zucAfter n g = after n) ∧
  ∀ (c : Nat) (s : State), c < s.params.nCtx → s.ctx.length = s.params.nCtx →
    s.nwords.toNat ≤ s.params.dbufBytes / 4 → (s.slot c).zuc.valid = true →
    ∃ t, exec (.zucGenks c) s = .next t ∧
      t = { s with mem := t.mem, ctx := t.ctx, status := Claims.ok s } ∧
      Claims.dbufWords t s.nwords.toNat = zucWords s.nwords.toNat (s.slot c).zuc.gen ∧
      (∀ a, a < 0x1000 ∨ 0x1000 + 4 * s.nwords.toNat ≤ a → readByte t a = readByte s a) ∧
      t.slot c = { s.slot c with
        zuc := { valid := true, gen := zucAfter s.nwords.toNat (s.slot c).zuc.gen } } ∧
      (∀ d, d ≠ c → t.slot d = s.slot d)

/-- R261: the streaming law of ZUC, over two commands. -/
def Obligations.ZucStreamingLaw : Prop :=
  ∀ (c : Nat) (s : State) (n1 n2 : Word), c < s.params.nCtx → s.ctx.length = s.params.nCtx →
    (s.slot c).zuc.valid = true →
    n1.toNat ≤ s.params.dbufBytes / 4 → n2.toNat ≤ s.params.dbufBytes / 4 →
    ∃ t u, exec (.zucGenks c) { s with nwords := n1 } = .next t ∧
      exec (.zucGenks c) { t with nwords := n2 } = .next u ∧
      Claims.dbufWords t n1.toNat ++ Claims.dbufWords u n2.toNat =
        zucWords (n1.toNat + n2.toNat) (s.slot c).zuc.gen ∧
      (u.slot c).zuc =
        { valid := true, gen := zucAfter (n1.toNat + n2.toNat) (s.slot c).zuc.gen }

/-- R258: ZUC.EEA3 XORs bit `i` of the message with bit `31 − (i mod 32)` of keystream word `i div 32` of
a private generator; the IV bytes are those of R257. -/
def Obligations.ZucEea3Result : Prop :=
  ∀ s : State, Claims.frameOk s →
    ∃ t, exec .zucEea3 s = .next t ∧ t = { s with mem := t.mem, status := Claims.ok s } ∧
      let iv4 : Byte := ((s.bearer.extractLsb' 0 5).zeroExtend 8 <<< 3) |||
        ((s.direction.extractLsb' 0 1).zeroExtend 8 <<< 2)
      let half : List Byte :=
        [s.count.extractLsb' 24 8, s.count.extractLsb' 16 8, s.count.extractLsb' 8 8,
         s.count.extractLsb' 0 8, iv4, 0, 0, 0]
      Claims.Applied
        (fun i => ((zucWords (ceilDiv s.length.toNat 32)
          (zucInit s.key.bytes (half ++ half))).getD (i / 32) 0).getLsbD (31 - i % 32)) s t

/-- R259, R260: ZUC.EIA3 writes to RES0 the XOR of the keystream windows `k(i)` of the message's 1 bits,
of `k(L)` and of `k(32(N−1))`; nothing else changes. -/
def Obligations.ZucEia3Result : Prop :=
  ∀ s : State, Claims.frameOk s →
    let iv4 : Byte := (s.bearer.extractLsb' 0 5).zeroExtend 8 <<< 3
    let d : Byte := (s.direction.extractLsb' 0 1).zeroExtend 8 <<< 7
    let c0 : Byte := s.count.extractLsb' 24 8
    let c1 : Byte := s.count.extractLsb' 16 8
    let c2 : Byte := s.count.extractLsb' 8 8
    let c3 : Byte := s.count.extractLsb' 0 8
    let n := ceilDiv s.length.toNat 32 + 2
    let zs := zucWords n (zucInit s.key.bytes
      [c0, c1, c2, c3, iv4, 0, 0, 0, c0 ^^^ d, c1, c2, c3, iv4, 0, d, 0])
    let zbit : Nat → Bool := fun i => (zs.getD (i / 32) 0).getLsbD (31 - i % 32)
    let k : Nat → Word := fun i => BitVec.ofNat 32
      ((List.range 32).foldl (fun v j => 2 * v + (zbit (i + j)).toNat) 0)
    exec .zucEia3 s = .next
      { s with
        res := { s.res with
          w0 := (List.range s.length.toNat).foldl
              (fun t i => if msgBit s i then t ^^^ k i else t) 0 ^^^
            k s.length.toNat ^^^ k (32 * (n - 1)) }
        status := Claims.ok s }

/-- R248, R249: with cells in range, the new `s15` of a clock of the ZUC LFSR is the sum of the rotated
cells with the carry added back in (rotations 15, 17, 21, 20, 8 and 0), in initialisation mode with the
input added; it is again in range, 2^31 − 1 standing for zero; the other cells move down and R1 and R2
stay. Rotating left by `k` multiplies by `2^k` in GF(2^31 − 1), and adding the carry back in adds in it. -/
def Obligations.ZucFieldArithmetic : Prop :=
  (∀ g : ZucGen, g.lfsr.nonzero = true →
    clockZucLfsr g = { g with lfsr := Claims.shifted g.lfsr (Claims.cellSum g.lfsr) } ∧
    (clockZucLfsr g).lfsr.nonzero = true ∧
    ∀ u : BitVec 31,
      clockZucLfsrInit u.toNat g =
        { g with lfsr := Claims.shifted g.lfsr (Claims.addCarry (Claims.cellSum g.lfsr) u) } ∧
      (clockZucLfsrInit u.toNat g).lfsr.nonzero = true) ∧
  (∀ (a : BitVec 31) (k : Nat), k ≤ 30 →
    2 ^ k * a.toNat % (2 ^ 31 - 1) = (a.rotateLeft k).toNat % (2 ^ 31 - 1)) ∧
  (∀ a b : BitVec 31,
    (a.toNat + b.toNat) % (2 ^ 31 - 1) = (Claims.addCarry a b).toNat % (2 ^ 31 - 1))

/-! ## COMP128 -/

/-- R290, R300: COMP128.V1 writes SRES to RES0 and Kc to RES1 and RES2, of the 16 bytes of KEY and of IV,
by the instance's tables; nothing else changes. R292: what one pair `(m, n)` of a level does, the order of
the pairs and of the levels. R293: the permutation. R291, R295: the eight rounds and the output. -/
def Obligations.Comp128V1Result : Prop :=
  (∀ s : State,
    let r := comp128V1 s.params.tables (s.key.bytes.map BitVec.toNat) (s.iv.bytes.map BitVec.toNat)
    exec .comp128V1 s = .next
      { s with
        res := { w0 := r.1, w1 := r.2.extractLsb' 32 32, w2 := r.2.extractLsb' 0 32,
                 w3 := s.res.w3 }
        status := Claims.ok s }) ∧
  (∀ (t : List (List Nat)) (j m n : Nat) (x : List Nat), x.length = 32 → m < n → n < 32 →
    let y := comp128Pair t j m n x
    y.length = 32 ∧
    y.getD m 0 = tableAt t ((x.getD m 0 + 2 * x.getD n 0) % 2 ^ (9 - j)) ∧
    y.getD n 0 = tableAt t ((2 * x.getD m 0 + x.getD n 0) % 2 ^ (9 - j)) ∧
    ∀ i, i ≠ m → i ≠ n → y.getD i 0 = x.getD i 0) ∧
  (∀ (ts : Comp128Tables) (x : List Nat),
    let level : List (List Nat) → Nat → List Nat → List Nat := fun t j x =>
      (List.range (2 ^ j)).foldl (fun x k => (List.range (2 ^ (4 - j))).foldl (fun x l =>
        comp128Pair t j (l + k * 2 ^ (5 - j)) (l + k * 2 ^ (5 - j) + 2 ^ (4 - j)) x) x) x
    comp128Compress ts x =
      level ts.t4 4 (level ts.t3 3 (level ts.t2 2 (level ts.t1 1 (level ts.t0 0 x))))) ∧
  (∀ (x : List Nat) (j : Nat), x.length = 32 → j < 16 →
    let bit : Nat → Bool := fun i => (x.getD (i / 4) 0).testBit (3 - i % 4)
    (comp128Permute x).length = 32 ∧ (comp128Permute x).getD j 0 = x.getD j 0 ∧
    (comp128Permute x).getD (16 + j) 0 = (List.range 8).foldl (fun v k =>
      v + (bit ((8 * j + k) * 17 % 128)).toNat * 2 ^ (7 - k)) 0) ∧
  (∀ (ts : Comp128Tables) (ki rand : List Nat), ki.length = 16 → rand.length = 16 →
    let round : List Nat → List Nat := fun x => comp128Compress ts (ki ++ x.drop 16)
    let r := round (iter (fun x => comp128Permute (round x)) 7 (List.replicate 16 0 ++ rand))
    let x : Nat → Nat := fun i => r.getD i 0
    let sres : Nat → Byte := fun i => BitVec.ofNat 8 (x (2 * i) <<< 4 ||| x (2 * i + 1))
    let kc : Nat → Byte := fun i => BitVec.ofNat 8
      (x (2 * i + 18) <<< 6 ||| x (2 * i + 19) <<< 2 ||| x (2 * i + 20) >>> 2)
    comp128V1 ts ki rand =
      (sres 0 ++ sres 1 ++ sres 2 ++ sres 3,
       kc 0 ++ kc 1 ++ kc 2 ++ kc 3 ++ kc 4 ++ kc 5 ++
         BitVec.ofNat 8 (x 30 <<< 6 ||| x 31 <<< 2) ++ (0 : Byte)))

/-- R290, R298, R301, R302: COMP128.V2 writes the OPEN core's SRES and its Kc with the OPEN mask's bits
cleared, COMP128.V3 the OPEN core's SRES and its Kc unmasked; nothing else changes. The core and the mask
are free values (log entries 9 and 10): the statement holds whatever they are. -/
def Obligations.Comp128V2AndV3Results : Prop :=
  ∀ s : State,
    let rand := s.iv.w0 ++ s.iv.w1 ++ s.iv.w2 ++ s.iv.w3
    let r2 := Config.comp128v23Core .v2 (Claims.key s) rand
    let r3 := Config.comp128v23Core .v3 (Claims.key s) rand
    (∃ t, exec .comp128V2 s = .next t ∧ t = { s with res := t.res, status := Claims.ok s } ∧
      t.res.w0 = r2.1 ∧ t.res.w1 ++ t.res.w2 = r2.2 &&& ~~~ Config.comp128v2KcZeroMask ∧
      t.res.w3 = s.res.w3) ∧
    (∃ t, exec .comp128V3 s = .next t ∧ t = { s with res := t.res, status := Claims.ok s } ∧
      t.res.w0 = r3.1 ∧ t.res.w1 ++ t.res.w2 = r3.2 ∧ t.res.w3 = s.res.w3)

/-- R296: whatever the tables, the last 10 bits of COMP128.V1's Kc, bits 9:0 of RES2, are zero. -/
def Obligations.Comp128V1KcEndsInZeros : Prop :=
  ∀ s t : State, exec .comp128V1 s = .next t → t.res.w2.extractLsb' 0 10 = 0

/-! ## Keccak -/

/-- R320, R330: KECCAK.P1600 leaves in STATE the lanes of the permutation of STATE, each little-endian at
bytes `8(x+5y)` up; nothing else changes. R327: the permutation is 24 rounds, each theta, rho, pi, chi and
iota with the round's constant (what each does: KeccakStepsByLane). -/
def Obligations.KeccakResult : Prop :=
  (∀ a : List DWord, keccakP1600 a = (List.range 24).foldl (fun b ir =>
    keccakIota (keccakRC.getD ir 0) (keccakChi (keccakPi (keccakRho (keccakTheta b))))) a) ∧
  ∀ s : State,
    let before : List DWord := (List.range 25).map (fun l => BitVec.ofNat 64
      ((List.range 8).foldl (fun v j => v + (readByte s (0x0100 + 8 * l + j)).toNat * 2 ^ (8 * j)) 0))
    ∃ t, exec .keccakP1600 s = .next t ∧ t = { s with mem := t.mem, status := Claims.ok s } ∧
      (∀ x y j, x < 5 → y < 5 → j < 8 →
        readByte t (0x0100 + 8 * (x + 5 * y) + j) =
          ((keccakP1600 before).getD (x + 5 * y) 0).extractLsb' (8 * j) 8) ∧
      (∀ a, a < 0x0100 ∨ 0x01C8 ≤ a → readByte t a = readByte s a)

/-- R321 to R325: what each of the five steps, and rho and pi together (R323), do to lane `A[x][y]`. -/
def Obligations.KeccakStepsByLane : Prop :=
  ∀ (a : List DWord) (x y : Nat), x < 5 → y < 5 →
    let at' : List DWord → Nat → Nat → DWord := fun b u v => b.getD (u % 5 + 5 * (v % 5)) 0
    let c : Nat → DWord := fun u => at' a u 0 ^^^ at' a u 1 ^^^ at' a u 2 ^^^ at' a u 3 ^^^ at' a u 4
    at' (keccakTheta a) x y = at' a x y ^^^ (c (x + 4) ^^^ (c (x + 1)).rotateLeft 1) ∧
    at' (keccakRho a) x y = (at' a x y).rotateLeft (rhoOffset x y) ∧
    at' (keccakPi a) y (2 * x + 3 * y) = at' a x y ∧
    at' (keccakPi (keccakRho a)) y (2 * x + 3 * y) = (at' a x y).rotateLeft (rhoOffset x y) ∧
    at' (keccakChi a) x y = at' a x y ^^^ (~~~ at' a (x + 1) y &&& at' a (x + 2) y) ∧
    (∀ rc, at' (keccakIota rc a) x y = if x = 0 ∧ y = 0 then at' a x y ^^^ rc else at' a x y)

/-- R322: the offset table follows from the walk `(x, y) ← (y, 2x + 3y)` from `(1, 0)`. R326: bit
`2^j − 1` of `RC[ir]` is `rc(j + 7 ir)`, the other bits are 0. -/
def Obligations.KeccakConstantsFromTheirRules : Prop :=
  let walk : Nat → Nat × Nat := fun t => iter (fun p => (p.2, (2 * p.1 + 3 * p.2) % 5)) t (1, 0)
  let clock : BitVec 8 → BitVec 8 := fun v =>
    if v.getLsbD 7 then (v <<< 1) ^^^ 0x71 else v <<< 1
  let rc : Nat → Bool := fun t => (iter clock (t % 255) 1).getLsbD 0
  rhoOffset 0 0 = 0 ∧
  (∀ t, t < 24 → rhoOffset (walk t).1 (walk t).2 = (t + 1) * (t + 2) / 2 % 64) ∧
  (∀ ir, ir < 24 → ∀ b, b < 64 → (keccakRC.getD ir 0).getLsbD b =
    (List.range 7).any (fun j => b == 2 ^ j - 1 && rc (j + 7 * ir)))

/-! ## Tables -/

/-- R195: SQ is `g49(x) ⊕ 0x25`, `g49` the Dickson polynomial over GF(2^8) with modulus 0x169. R141,
R142, R194, R195, R241, R242: each S-box is a bijection. -/
def Obligations.SboxTables : Prop :=
  let mulBy : Byte → Byte → Byte := fun x y =>
    (List.range 8).foldl (fun acc i =>
      if y.getLsbD i then
        acc ^^^ iter (fun v : Byte => if v.getLsbD 7 then (v <<< 1) ^^^ 0x69 else v <<< 1) i x
      else acc) 0
  let pow : Byte → Nat → Byte := fun x n => iter (mulBy x) n 1
  (∀ x : Byte, sqBox x =
    x ^^^ pow x 9 ^^^ pow x 13 ^^^ pow x 15 ^^^ pow x 33 ^^^ pow x 41 ^^^ pow x 45 ^^^ pow x 47 ^^^
      pow x 49 ^^^ 0x25) ∧
  Function.Bijective sqBox ∧ Function.Bijective s7 ∧ Function.Bijective s9 ∧
  Function.Bijective srBox ∧ Function.Bijective zucS0 ∧ Function.Bijective zucS1

/-! ## Rules about every command -/

/-- R48, R408: no command writes CMD, IRQEN, LENGTH, COUNT, BEARER, DIRECTION, FRESH, NWORDS, KEY or IV;
the parameters and the fault record stay too. -/
def Obligations.CommandsKeepOperandRegisters : Prop :=
  ∀ (i : Instr) (s t : State), exec i s = .next t →
    t.cmd = s.cmd ∧ t.doneie = s.doneie ∧ t.length = s.length ∧ t.count = s.count ∧
    t.bearer = s.bearer ∧ t.direction = s.direction ∧ t.fresh = s.fresh ∧ t.nwords = s.nwords ∧
    t.key = s.key ∧ t.iv = s.iv ∧ t.params = s.params ∧ t.faults = s.faults

/-- R44: a command writes only the RES registers its rule names. -/
def Obligations.CommandsWriteTheirResultsOnly : Prop :=
  ∀ (i : Instr) (s t : State), exec i s = .next t →
    t.res.w3 = s.res.w3 ∧
    (i ∉ [Instr.comp128V1, .comp128V2, .comp128V3] →
      t.res.w2 = s.res.w2 ∧
      ((∀ c, i ≠ .kasumiEnc c) →
        t.res.w1 = s.res.w1 ∧
        (i ∉ [Instr.kasumiF9, .snow3gUia2, .zucEia3] → t.res.w0 = s.res.w0)))

/-- R45, R331: no command but KECCAK.P1600 writes STATE. -/
def Obligations.OnlyKeccakWritesStateBuffer : Prop :=
  ∀ (i : Instr) (s t : State), exec i s = .next t → i ≠ .keccakP1600 →
    ∀ j, j < 200 → readByte t (0x0100 + j) = readByte s (0x0100 + j)

/-- R50, R55: a command without a slot leaves every context record alone; a command with slot `c` leaves
every other slot alone. -/
def Obligations.CommandsKeepOtherSlots : Prop :=
  ∀ (i : Instr) (s t : State), exec i s = .next t →
    (i.slot? = none → t.ctx = s.ctx) ∧
    (∀ c d, i.slot? = some c → d ≠ c → t.slot d = s.slot d)

/-- R88: what a command reads and writes of DBUF. A confidentiality command writes only
`DBUF[0 .. ceil_div(L, 8) − 1]`, and in the last of them no bit past `L`; a GENKS command only
`DBUF[0 .. 4n − 1]`; no other command writes DBUF; a confidentiality or integrity command reads only
`DBUF[0 .. ceil_div(L, 8) − 1]`. -/
def Obligations.CommandsStayInDbufBounds : Prop :=
  (∀ (i : Instr) (s t : State) (a : Nat), exec i s = .next t → 0x1000 ≤ a →
    (i ∈ [Instr.kasumiF8, .snow3gUea2, .zucEea3] → 0x1000 + ceilDiv s.length.toNat 8 ≤ a) →
    (∀ c, i = .snow3gGenks c ∨ i = .zucGenks c → 0x1000 + 4 * s.nwords.toNat ≤ a) →
    readByte t a = readByte s a) ∧
  (∀ (i : Instr) (s t : State) (j : Nat), exec i s = .next t →
    i ∈ [Instr.kasumiF8, .snow3gUea2, .zucEea3] → s.length.toNat ≤ j →
    msgBit t j = msgBit s j) ∧
  (∀ (i : Instr) (s t t' : State) (m : Memory) (d : Nat),
    i ∈ [Instr.kasumiF8, .kasumiF9, .snow3gUea2, .snow3gUia2, .zucEea3, .zucEia3] →
    exec i s = .next t → exec i { s with mem := m, draw := d } = .next t' →
    (∀ a, 0x1000 ≤ a → a < 0x1000 + ceilDiv s.length.toNat 8 →
      readByte { s with mem := m, draw := d } a = readByte s a) →
    t'.res = t.res ∧ t'.status = t.status ∧
    ∀ a, 0x1000 ≤ a → a < 0x1000 + ceilDiv s.length.toNat 8 → readByte t' a = readByte t a)

/-- R158, R211, R260: bits past `L` do not affect a MAC. -/
def Obligations.MacsIgnoreBitsPastLength : Prop :=
  ∀ (i : Instr) (s t t' : State) (m : Memory) (d : Nat),
    i ∈ [Instr.kasumiF9, .snow3gUia2, .zucEia3] →
    (∀ j, j < s.length.toNat → msgBit { s with mem := m, draw := d } j = msgBit s j) →
    exec i s = .next t → exec i { s with mem := m, draw := d } = .next t' → t'.res = t.res

/-- R151: applying a confidentiality command twice restores DBUF (and STATE, which it never touches). -/
def Obligations.ConfidentialityTwiceRestores : Prop :=
  ∀ (i : Instr) (s : State), i ∈ [Instr.kasumiF8, .snow3gUea2, .zucEea3] → Claims.frameOk s →
    ∃ t u, exec i s = .next t ∧ exec i t = .next u ∧ ∀ a, readByte u a = readByte s a

/-! ## The host's accesses -/

/-- R82, R84, R86: when an access is a bus error. It is not one exactly when it is 32 bits wide, at a
mapped offset that is a multiple of 4, and, while BUSY = 1, a read of ID, STATUS, CFG or IRQEN or a write
of IRQEN. A bus error changes no state of the engine; the model records it, and does not let the host
continue past it: the next access stops the run. -/
def Obligations.BadAccessesAreBusErrors : Prop :=
  ∀ (s : State) (a : Access) (es : List Event), s.bus = .access a :: es →
    (s.faults = [] →
      (((a.kind ≠ .read32 ∧ a.kind ≠ .write32) ∨ a.offset.toNat % 4 ≠ 0 ∨
        Reg.ofOffset s.params a.offset.toNat = none ∨
        (s.status.busy = true ∧
          ¬ (a.kind = .read32 ∧ a.offset ∈ [(0x0000 : BitVec 16), 0x0008, 0x0028, 0x000C]) ∧
          ¬ (a.kind = .write32 ∧ a.offset = 0x000C))) ↔
      step s = .next { s with bus := es, faults := [{ offset := a.offset, kind := a.kind }],
                              resp := .busError })) ∧
    (s.faults ≠ [] → step s = .fault .hostStopped)

/-- R47: which offsets (multiples of 4) are unmapped, and that an access to one is a bus error. -/
def Obligations.UnmappedOffsets : Prop :=
  (∀ (p : Params) (off : Nat), p.legal = true → off % 4 = 0 → off < 65536 →
    (Reg.ofOffset p off = none ↔
      off = 0x002C ∨ (0x0060 ≤ off ∧ off < 0x0100) ∨ (0x01C8 ≤ off ∧ off < 0x1000) ∨
      0x1000 + p.dbufBytes ≤ off)) ∧
  (∀ (s : State) (a : Access) (es : List Event), s.bus = .access a :: es → s.faults = [] →
    Reg.ofOffset s.params a.offset.toNat = none →
    step s = .next { s with bus := es, faults := [{ offset := a.offset, kind := a.kind }],
                            resp := .busError })

/-- R115: a write of CMD while idle accepts the word, undecoded, so an illegal word too, which the engine
step then reports; a write of CMD while busy is a bus error. -/
def Obligations.CommandAcceptance : Prop :=
  ∀ (s : State) (w : Word) (es : List Event), s.bus = asmWr .cmd w :: es → s.faults = [] →
    (s.status.busy = false →
      step s = .next { s with
        bus := es, cmd := w, resp := .done
        status := { busy := true, done := false, err := false, errcode := .none } } ∧
      (Claims.Illegal w → ∀ t, step s = .next t →
        engineTurn t = .next { t with status := Claims.err t .illegal })) ∧
    (s.status.busy = true →
      step s = .next { s with bus := es, faults := [{ offset := 0x0004, kind := .write32 }],
                              resp := .busError })

/-- R33, R368: a write of STATUS while idle clears DONE where bit 1 is 1, ERR and ERRCODE where bit 2 is
1, nothing else; STATUS reads BUSY in bit 0, DONE in bit 1, ERR in bit 2, ERRCODE in bits 7:4, 0
elsewhere. -/
def Obligations.StatusFieldsAndAcknowledge : Prop :=
  (∀ (s : State) (v : Word) (es : List Event), s.bus = asmWr .status v :: es → s.faults = [] →
    s.status.busy = false →
    step s = .next { s with
      bus := es, resp := .done
      status := { busy := false, done := s.status.done && !v.getLsbD 1,
                  err := s.status.err && !v.getLsbD 2,
                  errcode := if v.getLsbD 2 then .none else s.status.errcode } }) ∧
  (∀ (s : State) (es : List Event), s.bus = asmRd .status :: es → s.faults = [] →
    step s = .next { s with
      bus := es
      resp := .data (BitVec.ofNat 32 (s.status.busy.toNat + 2 * s.status.done.toNat +
        4 * s.status.err.toNat + 16 * (match s.status.errcode with
          | .none => 0 | .illegal => 1 | .param => 2 | .length => 3 | .noctx => 4))) })

/-- R85, R31, R35, R44: while idle, writes of ID, CFG and RES are ignored. ID and CFG read, at any time,
as R31 and R35 say. R44, R32: while idle, RESi reads the result it holds and CMD the last word accepted.
No read changes anything else. -/
def Obligations.ReadOnlyRegisters : Prop :=
  (∀ (s : State) (r : Reg) (v : Word) (es : List Event),
    r ∈ [Reg.id, .cfg, .res 0, .res 1, .res 2, .res 3] → s.bus = asmWr r v :: es →
    s.faults = [] → s.status.busy = false →
    step s = .next { s with bus := es, resp := .done }) ∧
  (∀ (s : State) (es : List Event), s.faults = [] → s.params.legal = true →
    (s.bus = asmRd .id :: es →
      step s = .next { s with bus := es, resp := .data 0x434D4B31 }) ∧
    (s.bus = asmRd .cfg :: es →
      step s = .next { s with
        bus := es
        resp := .data
          (BitVec.ofNat 32 (s.params.dbufBytes / 8 * 2 ^ 16 + (s.params.nCtx - 1))) })) ∧
  (∀ (s : State) (es : List Event), s.faults = [] → s.status.busy = false →
    (s.bus = asmRd .cmd :: es → step s = .next { s with bus := es, resp := .data s.cmd }) ∧
    (s.bus = asmRd (.res 0) :: es → step s = .next { s with bus := es, resp := .data s.res.w0 }) ∧
    (s.bus = asmRd (.res 1) :: es → step s = .next { s with bus := es, resp := .data s.res.w1 }) ∧
    (s.bus = asmRd (.res 2) :: es → step s = .next { s with bus := es, resp := .data s.res.w2 }) ∧
    (s.bus = asmRd (.res 3) :: es → step s = .next { s with bus := es, resp := .data s.res.w3 }))

/-- R36 to R43: an operand register holds the word written to it and reads as that word; KEY holds it too
but reads 0. Every other register, all of memory and the contexts stay. -/
def Obligations.OperandRegistersHoldWhatIsWritten : Prop :=
  ∀ (s : State) (r : Reg) (v : Word) (es : List Event),
    s.bus = asmWr r v :: asmRd r :: es → s.faults = [] → s.status.busy = false →
    let s' := { s with bus := es }
    (r = .length →
      (∃ t, step s = .next t ∧ step t = .next { s' with length := v, resp := .data v })) ∧
    (r = .count →
      (∃ t, step s = .next t ∧ step t = .next { s' with count := v, resp := .data v })) ∧
    (r = .bearer →
      (∃ t, step s = .next t ∧ step t = .next { s' with bearer := v, resp := .data v })) ∧
    (r = .direction →
      (∃ t, step s = .next t ∧ step t = .next { s' with direction := v, resp := .data v })) ∧
    (r = .fresh →
      (∃ t, step s = .next t ∧ step t = .next { s' with fresh := v, resp := .data v })) ∧
    (r = .nwords →
      (∃ t, step s = .next t ∧ step t = .next { s' with nwords := v, resp := .data v })) ∧
    (∀ i, r = .iv i →
      (∃ t, step s = .next t ∧ step t = .next { s' with iv := s.iv.set i v, resp := .data v })) ∧
    (∀ i, r = .key i →
      (∃ t, step s = .next t ∧ step t = .next { s' with key := s.key.set i v, resp := .data 0 }))

/-- R83: a word written to DBUF or STATE while idle reads back, byte `4k` of the region in bits 31:24;
every other byte stays. -/
def Obligations.BufferWordsAreBigEndian : Prop :=
  ∀ (s : State) (k base : Nat) (r : Reg) (v : Word) (es : List Event), s.params.legal = true →
    ((r = .dbuf k ∧ base = 0x1000 ∧ 4 * k < s.params.dbufBytes) ∨
      (r = .state k ∧ base = 0x0100 ∧ k < 50)) →
    s.bus = asmWr r v :: asmRd r :: es → s.faults = [] → s.status.busy = false →
    ∃ t u, step s = .next t ∧ step t = .next u ∧ u.resp = .data v ∧
      u = { s with bus := es, mem := u.mem, resp := .data v } ∧
      readByte u (base + 4 * k) = v.extractLsb' 24 8 ∧
      readByte u (base + 4 * k + 1) = v.extractLsb' 16 8 ∧
      readByte u (base + 4 * k + 2) = v.extractLsb' 8 8 ∧
      readByte u (base + 4 * k + 3) = v.extractLsb' 0 8 ∧
      ∀ a, a < base + 4 * k ∨ base + 4 * k + 4 ≤ a → readByte u a = readByte s a

/-- R85: a read changes no state; the same read again returns the same value. -/
def Obligations.ReadsHaveNoSideEffect : Prop :=
  ∀ (s t u : State) (off : BitVec 16) (v v' : Word) (es : List Event),
    s.bus = .access { kind := .read32, offset := off, value := v } ::
      .access { kind := .read32, offset := off, value := v' } :: es →
    step s = .next t → t.resp ≠ .busError → step t = .next u →
    (∃ x, t.resp = .data x) ∧ u.resp = t.resp ∧
    t = { s with bus := t.bus, resp := t.resp } ∧ u = { s with bus := es, resp := t.resp }

/-- R86, R98: while BUSY = 1 no host access changes an operand, a buffer, a context record, CMD or STATUS:
only IRQEN and the model's own record of the access change. R376, of the block with its hosts
(`hostedStep`, log entry 23), from a state in which a host whose command is in flight has not read
BUSY = 0, which every step keeps: a liberty is a move at any time; between its launch and its reading
BUSY = 0 a host has no other move; while one host's sequence is in hand no other host has another move;
no host launches a command that overwrites results still owed; so no well-formed access of a mapped offset
meets a bus error. R405: after the launch of a command that passes Check every RES register its rule names
(R44) is owed, and every KASUMI.ENC, MAC and COMP128 command that passes Check overwrites all of RES. R365:
a launch that fails Check owes and overwrites nothing. -/
def Obligations.BusyAccessesKeepOperands : Prop :=
  (∀ (s t : State) (a : Access) (es : List Event), s.bus = .access a :: es →
    s.status.busy = true → step s = .next t →
    t = { s with bus := es, doneie := t.doneie, faults := t.faults, resp := t.resp }) ∧
  (∀ h h' : Hosted, h.consistent = true → hostedStep h = .next h' → h'.consistent = true) ∧
  (∀ (h : Hosted) (n : Nat) (a : Access) (rs : List (BitVec 16)) (ms : List Move),
    h.moves = .access n a rs :: ms → h.block.faults = [] →
    let liberty : Prop :=
      (a.kind = .read32 ∧ a.offset ∈ [(0x0000 : BitVec 16), 0x0008, 0x0028, 0x000C]) ∨
        (a.kind = .write32 ∧ a.offset = 0x000C)
    (liberty → ∃ h', hostedStep h = .next h' ∧ h'.moves = ms) ∧
    (h.seq = none → ∃ h', hostedStep h = .next h' ∧ h'.moves = ms) ∧
    (¬ liberty → ∀ q, h.seq = some q →
      (q.host ≠ n ∨ q.phase = .launched ∨
        (a.kind = .write32 ∧ a.offset = 0x0004 ∧ ∃ d ∈ q.owed, overwrites a.value h.block d = true)) →
      hostedStep h = .fault .dutyBroken) ∧
    (a.kind = .write32 → a.offset = 0x0004 → h.block.status.busy = false →
      ∀ h', hostedStep h = .next h' → ∃ q', h'.seq = some q' ∧ q'.host = n ∧ q'.phase = .launched ∧
        (∀ d ∈ owedOf h.seq, d ∈ q'.owed) ∧
        (Claims.check a.value h.block = .none →
          ∀ k, k < Claims.resCount a.value → { lo := 0x0050 + 4 * k, hi := 0x0054 + 4 * k } ∈ q'.owed) ∧
        (Claims.check a.value h.block ≠ .none → q'.owed = owedOf h.seq)) ∧
    (h.consistent = true → a.kind = .read32 ∨ a.kind = .write32 → a.offset.toNat % 4 = 0 →
      Reg.ofOffset h.block.params a.offset.toNat ≠ none →
      ∀ h', hostedStep h = .next h' → h'.block.resp ≠ .busError ∧ h'.block.faults = [])) ∧
  (∀ (w : Word) (s : State),
    (Claims.check w s = .none → 0 < Claims.resCount w →
      ∀ k, k < 4 → overwrites w s { lo := 0x0050 + 4 * k, hi := 0x0054 + 4 * k } = true) ∧
    (Claims.check w s ≠ .none → ∀ d, overwrites w s d = false))

/-- R42, R54, R370: no access of the host depends on KEY or on a context record: two states that differ in
those only answer it alike and stay alike in everything else. -/
def Obligations.HostLearnsNoSecret : Prop :=
  ∀ (s t t' : State) (k : Quad) (x : List Ctx) (a : Access) (es : List Event),
    s.bus = .access a :: es → step s = .next t → step { s with key := k, ctx := x } = .next t' →
    t'.resp = t.resp ∧ t' = { t with key := t'.key, ctx := t'.ctx }

/-- R56: IRQ is `DONEIE & DONE`. R34, R366: IRQEN keeps bit 0 and may be written and read at all times,
busy or idle; IRQ follows at once and DONE does not change. -/
def Obligations.InterruptIsALevel : Prop :=
  (∀ s : State, s.irq = (s.doneie && s.status.done)) ∧
  (∀ (s : State) (v : Word) (es : List Event), s.bus = asmWr .irqen v :: asmRd .irqen :: es →
    s.faults = [] →
    ∃ t, step s = .next t ∧
      t = { s with bus := asmRd .irqen :: es, doneie := v.getLsbD 0, resp := .done } ∧
      t.irq = (v.getLsbD 0 && s.status.done) ∧
      step t = .next { t with bus := es, resp := .data (if v.getLsbD 0 then 1 else 0) })

/-! ## Reset -/

/-- R59: the state after reset, for every instance and every draw of the buffers' unspecified bytes
(`Config.resetByte`: the model's choice, a free value, log entry 5, DESIGN CHOICE), with an empty fault
record (the model's reading, log entry 4, DEDUCED: a run starts with it, a reset event keeps the record). The
other fields of the context records are
unobservable: a command that reads a record finishes with NOCTX. `State.reset` is such a state. -/
def Obligations.StateAfterReset : Prop :=
  (∀ (p : Params) (d : Nat), p.legal = true →
    let s := State.afterReset p d
    readReg s .id = 0x434D4B31 ∧
    readReg s .cfg = BitVec.ofNat 32 (p.dbufBytes / 8 * 2 ^ 16 + (p.nCtx - 1)) ∧
    s.cmd = 0 ∧ readReg s .status = 0 ∧ readReg s .irqen = 0 ∧ s.length = 0 ∧ s.count = 0 ∧
    s.bearer = 0 ∧ s.direction = 0 ∧ s.fresh = 0 ∧ s.nwords = 0 ∧
    s.key = { w0 := 0, w1 := 0, w2 := 0, w3 := 0 } ∧
    s.iv = { w0 := 0, w1 := 0, w2 := 0, w3 := 0 } ∧
    s.res = { w0 := 0, w1 := 0, w2 := 0, w3 := 0 } ∧
    (∀ a, readByte s a = Config.resetByte d a) ∧
    s.ctx.length = p.nCtx ∧
    (∀ c, (s.slot c).kas.valid = false ∧ (s.slot c).snow.valid = false ∧
      (s.slot c).zuc.valid = false) ∧
    (∀ c, c < p.nCtx →
      exec (.kasumiEnc c) s = .next { s with status := Claims.err s .noctx } ∧
      exec (.snow3gGenks c) s = .next { s with status := Claims.err s .noctx } ∧
      exec (.zucGenks c) s = .next { s with status := Claims.err s .noctx }) ∧
    s.irq = false ∧ s.faults = []) ∧
  ∃ p d, p.legal = true ∧ State.reset = State.afterReset p d

/-- R400, R402: the reset event discards a command in flight and destroys every context and key: after it
the engine is idle, and ENC and GENKS on any slot finish with NOCTX. -/
def Obligations.ResetEventDestroysContexts : Prop :=
  ∀ (s : State) (es : List Event), s.bus = .reset :: es →
    ∃ t, step s = .next t ∧ t.status = { busy := false, done := false, err := false, errcode := .none } ∧
      t.cmd = 0 ∧ t.doneie = false ∧ t.length = 0 ∧ t.count = 0 ∧ t.bearer = 0 ∧ t.direction = 0 ∧
      t.fresh = 0 ∧ t.nwords = 0 ∧ t.key = .zero ∧ t.iv = .zero ∧ t.res = .zero ∧
      t.params = s.params ∧ t.irq = false ∧
      ∀ c, c < s.params.nCtx →
        exec (.kasumiEnc c) t = .next { t with status := Claims.err t .noctx } ∧
        exec (.snow3gGenks c) t = .next { t with status := Claims.err t .noctx } ∧
        exec (.zucGenks c) t = .next { t with status := Claims.err t .noctx }

/-! ## The invariant -/

/-- The invariant holds at reset. -/
def Obligations.ResetMeetsInvariant : Prop := State.reset.Inv

/-- Every step keeps the invariant: legal parameters, a STATUS that says one thing (R33), memory in
canonical form and inside STATE and DBUF (R45, R46, R88), N_CTX slots (R50), every cell of a valid ZUC
record in 1 to 2^31 − 1 (R53). -/
def Obligations.StepKeepsInvariant : Prop :=
  ∀ s t : State, s.Inv → step s = .next t → t.Inv
end

