-- ==== Sys2Proof/Laws/State.lean ====
section
/-! SUPPORT. One lemma per field per update of the state, so that no later proof unfolds an update. -/

namespace Sys2Proof.Machine

variable (s : State)

/-! ### writeByte -/

@[simp] theorem writeByte_params (a : Nat) (b : Byte) : (writeByte s a b).params = s.params := rfl
@[simp] theorem writeByte_cmd (a : Nat) (b : Byte) : (writeByte s a b).cmd = s.cmd := rfl
@[simp] theorem writeByte_status (a : Nat) (b : Byte) : (writeByte s a b).status = s.status := rfl
@[simp] theorem writeByte_doneie (a : Nat) (b : Byte) : (writeByte s a b).doneie = s.doneie := rfl
@[simp] theorem writeByte_length (a : Nat) (b : Byte) : (writeByte s a b).length = s.length := rfl
@[simp] theorem writeByte_count (a : Nat) (b : Byte) : (writeByte s a b).count = s.count := rfl
@[simp] theorem writeByte_bearer (a : Nat) (b : Byte) : (writeByte s a b).bearer = s.bearer := rfl
@[simp] theorem writeByte_direction (a : Nat) (b : Byte) :
    (writeByte s a b).direction = s.direction := rfl
@[simp] theorem writeByte_fresh (a : Nat) (b : Byte) : (writeByte s a b).fresh = s.fresh := rfl
@[simp] theorem writeByte_nwords (a : Nat) (b : Byte) : (writeByte s a b).nwords = s.nwords := rfl
@[simp] theorem writeByte_key (a : Nat) (b : Byte) : (writeByte s a b).key = s.key := rfl
@[simp] theorem writeByte_iv (a : Nat) (b : Byte) : (writeByte s a b).iv = s.iv := rfl
@[simp] theorem writeByte_res (a : Nat) (b : Byte) : (writeByte s a b).res = s.res := rfl
@[simp] theorem writeByte_mem (a : Nat) (b : Byte) : (writeByte s a b).mem = s.mem.write a b := rfl
@[simp] theorem writeByte_ctx (a : Nat) (b : Byte) : (writeByte s a b).ctx = s.ctx := rfl
@[simp] theorem writeByte_faults (a : Nat) (b : Byte) : (writeByte s a b).faults = s.faults := rfl
@[simp] theorem writeByte_draw (a : Nat) (b : Byte) : (writeByte s a b).draw = s.draw := rfl
@[simp] theorem writeByte_bus (a : Nat) (b : Byte) : (writeByte s a b).bus = s.bus := rfl
@[simp] theorem writeByte_resp (a : Nat) (b : Byte) : (writeByte s a b).resp = s.resp := rfl

/-! ### setSlot -/

@[simp] theorem setSlot_params (c : Nat) (x : Ctx) : (setSlot s c x).params = s.params := rfl
@[simp] theorem setSlot_cmd (c : Nat) (x : Ctx) : (setSlot s c x).cmd = s.cmd := rfl
@[simp] theorem setSlot_status (c : Nat) (x : Ctx) : (setSlot s c x).status = s.status := rfl
@[simp] theorem setSlot_doneie (c : Nat) (x : Ctx) : (setSlot s c x).doneie = s.doneie := rfl
@[simp] theorem setSlot_length (c : Nat) (x : Ctx) : (setSlot s c x).length = s.length := rfl
@[simp] theorem setSlot_count (c : Nat) (x : Ctx) : (setSlot s c x).count = s.count := rfl
@[simp] theorem setSlot_bearer (c : Nat) (x : Ctx) : (setSlot s c x).bearer = s.bearer := rfl
@[simp] theorem setSlot_direction (c : Nat) (x : Ctx) :
    (setSlot s c x).direction = s.direction := rfl
@[simp] theorem setSlot_fresh (c : Nat) (x : Ctx) : (setSlot s c x).fresh = s.fresh := rfl
@[simp] theorem setSlot_nwords (c : Nat) (x : Ctx) : (setSlot s c x).nwords = s.nwords := rfl
@[simp] theorem setSlot_key (c : Nat) (x : Ctx) : (setSlot s c x).key = s.key := rfl
@[simp] theorem setSlot_iv (c : Nat) (x : Ctx) : (setSlot s c x).iv = s.iv := rfl
@[simp] theorem setSlot_res (c : Nat) (x : Ctx) : (setSlot s c x).res = s.res := rfl
@[simp] theorem setSlot_mem (c : Nat) (x : Ctx) : (setSlot s c x).mem = s.mem := rfl
@[simp] theorem setSlot_ctx (c : Nat) (x : Ctx) : (setSlot s c x).ctx = s.ctx.set c x := rfl
@[simp] theorem setSlot_faults (c : Nat) (x : Ctx) : (setSlot s c x).faults = s.faults := rfl
@[simp] theorem setSlot_draw (c : Nat) (x : Ctx) : (setSlot s c x).draw = s.draw := rfl
@[simp] theorem setSlot_bus (c : Nat) (x : Ctx) : (setSlot s c x).bus = s.bus := rfl
@[simp] theorem setSlot_resp (c : Nat) (x : Ctx) : (setSlot s c x).resp = s.resp := rfl

/-! ### setKas -/

@[simp] theorem setKas_params (c : Nat) (r : KasRecord) : (setKas s c r).params = s.params := rfl
@[simp] theorem setKas_cmd (c : Nat) (r : KasRecord) : (setKas s c r).cmd = s.cmd := rfl
@[simp] theorem setKas_status (c : Nat) (r : KasRecord) : (setKas s c r).status = s.status := rfl
@[simp] theorem setKas_doneie (c : Nat) (r : KasRecord) : (setKas s c r).doneie = s.doneie := rfl
@[simp] theorem setKas_length (c : Nat) (r : KasRecord) : (setKas s c r).length = s.length := rfl
@[simp] theorem setKas_count (c : Nat) (r : KasRecord) : (setKas s c r).count = s.count := rfl
@[simp] theorem setKas_bearer (c : Nat) (r : KasRecord) : (setKas s c r).bearer = s.bearer := rfl
@[simp] theorem setKas_direction (c : Nat) (r : KasRecord) :
    (setKas s c r).direction = s.direction := rfl
@[simp] theorem setKas_fresh (c : Nat) (r : KasRecord) : (setKas s c r).fresh = s.fresh := rfl
@[simp] theorem setKas_nwords (c : Nat) (r : KasRecord) : (setKas s c r).nwords = s.nwords := rfl
@[simp] theorem setKas_key (c : Nat) (r : KasRecord) : (setKas s c r).key = s.key := rfl
@[simp] theorem setKas_iv (c : Nat) (r : KasRecord) : (setKas s c r).iv = s.iv := rfl
@[simp] theorem setKas_res (c : Nat) (r : KasRecord) : (setKas s c r).res = s.res := rfl
@[simp] theorem setKas_mem (c : Nat) (r : KasRecord) : (setKas s c r).mem = s.mem := rfl
@[simp] theorem setKas_ctx (c : Nat) (r : KasRecord) :
    (setKas s c r).ctx = s.ctx.set c { s.slot c with kas := r } := rfl
@[simp] theorem setKas_faults (c : Nat) (r : KasRecord) : (setKas s c r).faults = s.faults := rfl
@[simp] theorem setKas_draw (c : Nat) (r : KasRecord) : (setKas s c r).draw = s.draw := rfl
@[simp] theorem setKas_bus (c : Nat) (r : KasRecord) : (setKas s c r).bus = s.bus := rfl
@[simp] theorem setKas_resp (c : Nat) (r : KasRecord) : (setKas s c r).resp = s.resp := rfl

/-! ### setSnow -/

@[simp] theorem setSnow_params (c : Nat) (r : SnowRecord) : (setSnow s c r).params = s.params := rfl
@[simp] theorem setSnow_cmd (c : Nat) (r : SnowRecord) : (setSnow s c r).cmd = s.cmd := rfl
@[simp] theorem setSnow_status (c : Nat) (r : SnowRecord) : (setSnow s c r).status = s.status := rfl
@[simp] theorem setSnow_doneie (c : Nat) (r : SnowRecord) : (setSnow s c r).doneie = s.doneie := rfl
@[simp] theorem setSnow_length (c : Nat) (r : SnowRecord) : (setSnow s c r).length = s.length := rfl
@[simp] theorem setSnow_count (c : Nat) (r : SnowRecord) : (setSnow s c r).count = s.count := rfl
@[simp] theorem setSnow_bearer (c : Nat) (r : SnowRecord) : (setSnow s c r).bearer = s.bearer := rfl
@[simp] theorem setSnow_direction (c : Nat) (r : SnowRecord) :
    (setSnow s c r).direction = s.direction := rfl
@[simp] theorem setSnow_fresh (c : Nat) (r : SnowRecord) : (setSnow s c r).fresh = s.fresh := rfl
@[simp] theorem setSnow_nwords (c : Nat) (r : SnowRecord) : (setSnow s c r).nwords = s.nwords := rfl
@[simp] theorem setSnow_key (c : Nat) (r : SnowRecord) : (setSnow s c r).key = s.key := rfl
@[simp] theorem setSnow_iv (c : Nat) (r : SnowRecord) : (setSnow s c r).iv = s.iv := rfl
@[simp] theorem setSnow_res (c : Nat) (r : SnowRecord) : (setSnow s c r).res = s.res := rfl
@[simp] theorem setSnow_mem (c : Nat) (r : SnowRecord) : (setSnow s c r).mem = s.mem := rfl
@[simp] theorem setSnow_ctx (c : Nat) (r : SnowRecord) :
    (setSnow s c r).ctx = s.ctx.set c { s.slot c with snow := r } := rfl
@[simp] theorem setSnow_faults (c : Nat) (r : SnowRecord) : (setSnow s c r).faults = s.faults := rfl
@[simp] theorem setSnow_draw (c : Nat) (r : SnowRecord) : (setSnow s c r).draw = s.draw := rfl
@[simp] theorem setSnow_bus (c : Nat) (r : SnowRecord) : (setSnow s c r).bus = s.bus := rfl
@[simp] theorem setSnow_resp (c : Nat) (r : SnowRecord) : (setSnow s c r).resp = s.resp := rfl

/-! ### setZuc -/

@[simp] theorem setZuc_params (c : Nat) (r : ZucRecord) : (setZuc s c r).params = s.params := rfl
@[simp] theorem setZuc_cmd (c : Nat) (r : ZucRecord) : (setZuc s c r).cmd = s.cmd := rfl
@[simp] theorem setZuc_status (c : Nat) (r : ZucRecord) : (setZuc s c r).status = s.status := rfl
@[simp] theorem setZuc_doneie (c : Nat) (r : ZucRecord) : (setZuc s c r).doneie = s.doneie := rfl
@[simp] theorem setZuc_length (c : Nat) (r : ZucRecord) : (setZuc s c r).length = s.length := rfl
@[simp] theorem setZuc_count (c : Nat) (r : ZucRecord) : (setZuc s c r).count = s.count := rfl
@[simp] theorem setZuc_bearer (c : Nat) (r : ZucRecord) : (setZuc s c r).bearer = s.bearer := rfl
@[simp] theorem setZuc_direction (c : Nat) (r : ZucRecord) :
    (setZuc s c r).direction = s.direction := rfl
@[simp] theorem setZuc_fresh (c : Nat) (r : ZucRecord) : (setZuc s c r).fresh = s.fresh := rfl
@[simp] theorem setZuc_nwords (c : Nat) (r : ZucRecord) : (setZuc s c r).nwords = s.nwords := rfl
@[simp] theorem setZuc_key (c : Nat) (r : ZucRecord) : (setZuc s c r).key = s.key := rfl
@[simp] theorem setZuc_iv (c : Nat) (r : ZucRecord) : (setZuc s c r).iv = s.iv := rfl
@[simp] theorem setZuc_res (c : Nat) (r : ZucRecord) : (setZuc s c r).res = s.res := rfl
@[simp] theorem setZuc_mem (c : Nat) (r : ZucRecord) : (setZuc s c r).mem = s.mem := rfl
@[simp] theorem setZuc_ctx (c : Nat) (r : ZucRecord) :
    (setZuc s c r).ctx = s.ctx.set c { s.slot c with zuc := r } := rfl
@[simp] theorem setZuc_faults (c : Nat) (r : ZucRecord) : (setZuc s c r).faults = s.faults := rfl
@[simp] theorem setZuc_draw (c : Nat) (r : ZucRecord) : (setZuc s c r).draw = s.draw := rfl
@[simp] theorem setZuc_bus (c : Nat) (r : ZucRecord) : (setZuc s c r).bus = s.bus := rfl
@[simp] theorem setZuc_resp (c : Nat) (r : ZucRecord) : (setZuc s c r).resp = s.resp := rfl

/-! ### setRes0 -/

@[simp] theorem setRes0_params (v : Word) : (setRes0 s v).params = s.params := rfl
@[simp] theorem setRes0_cmd (v : Word) : (setRes0 s v).cmd = s.cmd := rfl
@[simp] theorem setRes0_status (v : Word) : (setRes0 s v).status = s.status := rfl
@[simp] theorem setRes0_doneie (v : Word) : (setRes0 s v).doneie = s.doneie := rfl
@[simp] theorem setRes0_length (v : Word) : (setRes0 s v).length = s.length := rfl
@[simp] theorem setRes0_count (v : Word) : (setRes0 s v).count = s.count := rfl
@[simp] theorem setRes0_bearer (v : Word) : (setRes0 s v).bearer = s.bearer := rfl
@[simp] theorem setRes0_direction (v : Word) : (setRes0 s v).direction = s.direction := rfl
@[simp] theorem setRes0_fresh (v : Word) : (setRes0 s v).fresh = s.fresh := rfl
@[simp] theorem setRes0_nwords (v : Word) : (setRes0 s v).nwords = s.nwords := rfl
@[simp] theorem setRes0_key (v : Word) : (setRes0 s v).key = s.key := rfl
@[simp] theorem setRes0_iv (v : Word) : (setRes0 s v).iv = s.iv := rfl
@[simp] theorem setRes0_res (v : Word) : (setRes0 s v).res = { s.res with w0 := v } := rfl
@[simp] theorem setRes0_mem (v : Word) : (setRes0 s v).mem = s.mem := rfl
@[simp] theorem setRes0_ctx (v : Word) : (setRes0 s v).ctx = s.ctx := rfl
@[simp] theorem setRes0_faults (v : Word) : (setRes0 s v).faults = s.faults := rfl
@[simp] theorem setRes0_draw (v : Word) : (setRes0 s v).draw = s.draw := rfl
@[simp] theorem setRes0_bus (v : Word) : (setRes0 s v).bus = s.bus := rfl
@[simp] theorem setRes0_resp (v : Word) : (setRes0 s v).resp = s.resp := rfl

/-! ### setRes1 -/

@[simp] theorem setRes1_params (v : Word) : (setRes1 s v).params = s.params := rfl
@[simp] theorem setRes1_cmd (v : Word) : (setRes1 s v).cmd = s.cmd := rfl
@[simp] theorem setRes1_status (v : Word) : (setRes1 s v).status = s.status := rfl
@[simp] theorem setRes1_doneie (v : Word) : (setRes1 s v).doneie = s.doneie := rfl
@[simp] theorem setRes1_length (v : Word) : (setRes1 s v).length = s.length := rfl
@[simp] theorem setRes1_count (v : Word) : (setRes1 s v).count = s.count := rfl
@[simp] theorem setRes1_bearer (v : Word) : (setRes1 s v).bearer = s.bearer := rfl
@[simp] theorem setRes1_direction (v : Word) : (setRes1 s v).direction = s.direction := rfl
@[simp] theorem setRes1_fresh (v : Word) : (setRes1 s v).fresh = s.fresh := rfl
@[simp] theorem setRes1_nwords (v : Word) : (setRes1 s v).nwords = s.nwords := rfl
@[simp] theorem setRes1_key (v : Word) : (setRes1 s v).key = s.key := rfl
@[simp] theorem setRes1_iv (v : Word) : (setRes1 s v).iv = s.iv := rfl
@[simp] theorem setRes1_res (v : Word) : (setRes1 s v).res = { s.res with w1 := v } := rfl
@[simp] theorem setRes1_mem (v : Word) : (setRes1 s v).mem = s.mem := rfl
@[simp] theorem setRes1_ctx (v : Word) : (setRes1 s v).ctx = s.ctx := rfl
@[simp] theorem setRes1_faults (v : Word) : (setRes1 s v).faults = s.faults := rfl
@[simp] theorem setRes1_draw (v : Word) : (setRes1 s v).draw = s.draw := rfl
@[simp] theorem setRes1_bus (v : Word) : (setRes1 s v).bus = s.bus := rfl
@[simp] theorem setRes1_resp (v : Word) : (setRes1 s v).resp = s.resp := rfl

/-! ### setRes2 -/

@[simp] theorem setRes2_params (v : Word) : (setRes2 s v).params = s.params := rfl
@[simp] theorem setRes2_cmd (v : Word) : (setRes2 s v).cmd = s.cmd := rfl
@[simp] theorem setRes2_status (v : Word) : (setRes2 s v).status = s.status := rfl
@[simp] theorem setRes2_doneie (v : Word) : (setRes2 s v).doneie = s.doneie := rfl
@[simp] theorem setRes2_length (v : Word) : (setRes2 s v).length = s.length := rfl
@[simp] theorem setRes2_count (v : Word) : (setRes2 s v).count = s.count := rfl
@[simp] theorem setRes2_bearer (v : Word) : (setRes2 s v).bearer = s.bearer := rfl
@[simp] theorem setRes2_direction (v : Word) : (setRes2 s v).direction = s.direction := rfl
@[simp] theorem setRes2_fresh (v : Word) : (setRes2 s v).fresh = s.fresh := rfl
@[simp] theorem setRes2_nwords (v : Word) : (setRes2 s v).nwords = s.nwords := rfl
@[simp] theorem setRes2_key (v : Word) : (setRes2 s v).key = s.key := rfl
@[simp] theorem setRes2_iv (v : Word) : (setRes2 s v).iv = s.iv := rfl
@[simp] theorem setRes2_res (v : Word) : (setRes2 s v).res = { s.res with w2 := v } := rfl
@[simp] theorem setRes2_mem (v : Word) : (setRes2 s v).mem = s.mem := rfl
@[simp] theorem setRes2_ctx (v : Word) : (setRes2 s v).ctx = s.ctx := rfl
@[simp] theorem setRes2_faults (v : Word) : (setRes2 s v).faults = s.faults := rfl
@[simp] theorem setRes2_draw (v : Word) : (setRes2 s v).draw = s.draw := rfl
@[simp] theorem setRes2_bus (v : Word) : (setRes2 s v).bus = s.bus := rfl
@[simp] theorem setRes2_resp (v : Word) : (setRes2 s v).resp = s.resp := rfl

/-! ### complete -/

@[simp] theorem complete_params : (complete s).params = s.params := rfl
@[simp] theorem complete_cmd : (complete s).cmd = s.cmd := rfl
@[simp] theorem complete_status : (complete s).status = s.status.completed := rfl
@[simp] theorem complete_doneie : (complete s).doneie = s.doneie := rfl
@[simp] theorem complete_length : (complete s).length = s.length := rfl
@[simp] theorem complete_count : (complete s).count = s.count := rfl
@[simp] theorem complete_bearer : (complete s).bearer = s.bearer := rfl
@[simp] theorem complete_direction : (complete s).direction = s.direction := rfl
@[simp] theorem complete_fresh : (complete s).fresh = s.fresh := rfl
@[simp] theorem complete_nwords : (complete s).nwords = s.nwords := rfl
@[simp] theorem complete_key : (complete s).key = s.key := rfl
@[simp] theorem complete_iv : (complete s).iv = s.iv := rfl
@[simp] theorem complete_res : (complete s).res = s.res := rfl
@[simp] theorem complete_mem : (complete s).mem = s.mem := rfl
@[simp] theorem complete_ctx : (complete s).ctx = s.ctx := rfl
@[simp] theorem complete_faults : (complete s).faults = s.faults := rfl
@[simp] theorem complete_draw : (complete s).draw = s.draw := rfl
@[simp] theorem complete_bus : (complete s).bus = s.bus := rfl
@[simp] theorem complete_resp : (complete s).resp = s.resp := rfl

/-! ### raiseError -/

@[simp] theorem raiseError_params (e : ErrCode) : (raiseError e s).params = s.params := rfl
@[simp] theorem raiseError_cmd (e : ErrCode) : (raiseError e s).cmd = s.cmd := rfl
@[simp] theorem raiseError_status (e : ErrCode) : (raiseError e s).status = s.status.failed e := rfl
@[simp] theorem raiseError_doneie (e : ErrCode) : (raiseError e s).doneie = s.doneie := rfl
@[simp] theorem raiseError_length (e : ErrCode) : (raiseError e s).length = s.length := rfl
@[simp] theorem raiseError_count (e : ErrCode) : (raiseError e s).count = s.count := rfl
@[simp] theorem raiseError_bearer (e : ErrCode) : (raiseError e s).bearer = s.bearer := rfl
@[simp] theorem raiseError_direction (e : ErrCode) : (raiseError e s).direction = s.direction := rfl
@[simp] theorem raiseError_fresh (e : ErrCode) : (raiseError e s).fresh = s.fresh := rfl
@[simp] theorem raiseError_nwords (e : ErrCode) : (raiseError e s).nwords = s.nwords := rfl
@[simp] theorem raiseError_key (e : ErrCode) : (raiseError e s).key = s.key := rfl
@[simp] theorem raiseError_iv (e : ErrCode) : (raiseError e s).iv = s.iv := rfl
@[simp] theorem raiseError_res (e : ErrCode) : (raiseError e s).res = s.res := rfl
@[simp] theorem raiseError_mem (e : ErrCode) : (raiseError e s).mem = s.mem := rfl
@[simp] theorem raiseError_ctx (e : ErrCode) : (raiseError e s).ctx = s.ctx := rfl
@[simp] theorem raiseError_faults (e : ErrCode) : (raiseError e s).faults = s.faults := rfl
@[simp] theorem raiseError_draw (e : ErrCode) : (raiseError e s).draw = s.draw := rfl
@[simp] theorem raiseError_bus (e : ErrCode) : (raiseError e s).bus = s.bus := rfl
@[simp] theorem raiseError_resp (e : ErrCode) : (raiseError e s).resp = s.resp := rfl

/-! ### acceptCommand -/

@[simp] theorem acceptCommand_params (w : Word) : (acceptCommand s w).params = s.params := rfl
@[simp] theorem acceptCommand_cmd (w : Word) : (acceptCommand s w).cmd = w := rfl
@[simp] theorem acceptCommand_status (w : Word) : (acceptCommand s w).status = .accepted := rfl
@[simp] theorem acceptCommand_doneie (w : Word) : (acceptCommand s w).doneie = s.doneie := rfl
@[simp] theorem acceptCommand_length (w : Word) : (acceptCommand s w).length = s.length := rfl
@[simp] theorem acceptCommand_count (w : Word) : (acceptCommand s w).count = s.count := rfl
@[simp] theorem acceptCommand_bearer (w : Word) : (acceptCommand s w).bearer = s.bearer := rfl
@[simp] theorem acceptCommand_direction (w : Word) :
    (acceptCommand s w).direction = s.direction := rfl
@[simp] theorem acceptCommand_fresh (w : Word) : (acceptCommand s w).fresh = s.fresh := rfl
@[simp] theorem acceptCommand_nwords (w : Word) : (acceptCommand s w).nwords = s.nwords := rfl
@[simp] theorem acceptCommand_key (w : Word) : (acceptCommand s w).key = s.key := rfl
@[simp] theorem acceptCommand_iv (w : Word) : (acceptCommand s w).iv = s.iv := rfl
@[simp] theorem acceptCommand_res (w : Word) : (acceptCommand s w).res = s.res := rfl
@[simp] theorem acceptCommand_mem (w : Word) : (acceptCommand s w).mem = s.mem := rfl
@[simp] theorem acceptCommand_ctx (w : Word) : (acceptCommand s w).ctx = s.ctx := rfl
@[simp] theorem acceptCommand_faults (w : Word) : (acceptCommand s w).faults = s.faults := rfl
@[simp] theorem acceptCommand_draw (w : Word) : (acceptCommand s w).draw = s.draw := rfl
@[simp] theorem acceptCommand_bus (w : Word) : (acceptCommand s w).bus = s.bus := rfl
@[simp] theorem acceptCommand_resp (w : Word) : (acceptCommand s w).resp = s.resp := rfl

/-! ### setBus -/

@[simp] theorem setBus_params (es : List Event) : (setBus s es).params = s.params := rfl
@[simp] theorem setBus_cmd (es : List Event) : (setBus s es).cmd = s.cmd := rfl
@[simp] theorem setBus_status (es : List Event) : (setBus s es).status = s.status := rfl
@[simp] theorem setBus_doneie (es : List Event) : (setBus s es).doneie = s.doneie := rfl
@[simp] theorem setBus_length (es : List Event) : (setBus s es).length = s.length := rfl
@[simp] theorem setBus_count (es : List Event) : (setBus s es).count = s.count := rfl
@[simp] theorem setBus_bearer (es : List Event) : (setBus s es).bearer = s.bearer := rfl
@[simp] theorem setBus_direction (es : List Event) : (setBus s es).direction = s.direction := rfl
@[simp] theorem setBus_fresh (es : List Event) : (setBus s es).fresh = s.fresh := rfl
@[simp] theorem setBus_nwords (es : List Event) : (setBus s es).nwords = s.nwords := rfl
@[simp] theorem setBus_key (es : List Event) : (setBus s es).key = s.key := rfl
@[simp] theorem setBus_iv (es : List Event) : (setBus s es).iv = s.iv := rfl
@[simp] theorem setBus_res (es : List Event) : (setBus s es).res = s.res := rfl
@[simp] theorem setBus_mem (es : List Event) : (setBus s es).mem = s.mem := rfl
@[simp] theorem setBus_ctx (es : List Event) : (setBus s es).ctx = s.ctx := rfl
@[simp] theorem setBus_faults (es : List Event) : (setBus s es).faults = s.faults := rfl
@[simp] theorem setBus_draw (es : List Event) : (setBus s es).draw = s.draw := rfl
@[simp] theorem setBus_bus (es : List Event) : (setBus s es).bus = es := rfl
@[simp] theorem setBus_resp (es : List Event) : (setBus s es).resp = s.resp := rfl

/-! ### busError -/

@[simp] theorem busError_params (a : Access) : (busError a s).params = s.params := rfl
@[simp] theorem busError_cmd (a : Access) : (busError a s).cmd = s.cmd := rfl
@[simp] theorem busError_status (a : Access) : (busError a s).status = s.status := rfl
@[simp] theorem busError_doneie (a : Access) : (busError a s).doneie = s.doneie := rfl
@[simp] theorem busError_length (a : Access) : (busError a s).length = s.length := rfl
@[simp] theorem busError_count (a : Access) : (busError a s).count = s.count := rfl
@[simp] theorem busError_bearer (a : Access) : (busError a s).bearer = s.bearer := rfl
@[simp] theorem busError_direction (a : Access) : (busError a s).direction = s.direction := rfl
@[simp] theorem busError_fresh (a : Access) : (busError a s).fresh = s.fresh := rfl
@[simp] theorem busError_nwords (a : Access) : (busError a s).nwords = s.nwords := rfl
@[simp] theorem busError_key (a : Access) : (busError a s).key = s.key := rfl
@[simp] theorem busError_iv (a : Access) : (busError a s).iv = s.iv := rfl
@[simp] theorem busError_res (a : Access) : (busError a s).res = s.res := rfl
@[simp] theorem busError_mem (a : Access) : (busError a s).mem = s.mem := rfl
@[simp] theorem busError_ctx (a : Access) : (busError a s).ctx = s.ctx := rfl
@[simp] theorem busError_faults (a : Access) :
    (busError a s).faults = s.faults ++ [{ offset := a.offset, kind := a.kind }] := rfl
@[simp] theorem busError_draw (a : Access) : (busError a s).draw = s.draw := rfl
@[simp] theorem busError_bus (a : Access) : (busError a s).bus = s.bus := rfl
@[simp] theorem busError_resp (a : Access) : (busError a s).resp = .busError := rfl

/-! ### writeBytes and what is built on it: memory alone changes -/

@[simp] theorem writeBytes_params (a : Nat) (bs : List Byte) : (writeBytes s a bs).params = s.params := by
  induction bs generalizing s a with
  | nil => rfl
  | cons b bs ih => simp [writeBytes, ih]
@[simp] theorem writeBytes_cmd (a : Nat) (bs : List Byte) : (writeBytes s a bs).cmd = s.cmd := by
  induction bs generalizing s a with
  | nil => rfl
  | cons b bs ih => simp [writeBytes, ih]
@[simp] theorem writeBytes_status (a : Nat) (bs : List Byte) : (writeBytes s a bs).status = s.status := by
  induction bs generalizing s a with
  | nil => rfl
  | cons b bs ih => simp [writeBytes, ih]
@[simp] theorem writeBytes_doneie (a : Nat) (bs : List Byte) : (writeBytes s a bs).doneie = s.doneie := by
  induction bs generalizing s a with
  | nil => rfl
  | cons b bs ih => simp [writeBytes, ih]
@[simp] theorem writeBytes_length (a : Nat) (bs : List Byte) : (writeBytes s a bs).length = s.length := by
  induction bs generalizing s a with
  | nil => rfl
  | cons b bs ih => simp [writeBytes, ih]
@[simp] theorem writeBytes_count (a : Nat) (bs : List Byte) : (writeBytes s a bs).count = s.count := by
  induction bs generalizing s a with
  | nil => rfl
  | cons b bs ih => simp [writeBytes, ih]
@[simp] theorem writeBytes_bearer (a : Nat) (bs : List Byte) : (writeBytes s a bs).bearer = s.bearer := by
  induction bs generalizing s a with
  | nil => rfl
  | cons b bs ih => simp [writeBytes, ih]
@[simp] theorem writeBytes_direction (a : Nat) (bs : List Byte) : (writeBytes s a bs).direction = s.direction := by
  induction bs generalizing s a with
  | nil => rfl
  | cons b bs ih => simp [writeBytes, ih]
@[simp] theorem writeBytes_fresh (a : Nat) (bs : List Byte) : (writeBytes s a bs).fresh = s.fresh := by
  induction bs generalizing s a with
  | nil => rfl
  | cons b bs ih => simp [writeBytes, ih]
@[simp] theorem writeBytes_nwords (a : Nat) (bs : List Byte) : (writeBytes s a bs).nwords = s.nwords := by
  induction bs generalizing s a with
  | nil => rfl
  | cons b bs ih => simp [writeBytes, ih]
@[simp] theorem writeBytes_key (a : Nat) (bs : List Byte) : (writeBytes s a bs).key = s.key := by
  induction bs generalizing s a with
  | nil => rfl
  | cons b bs ih => simp [writeBytes, ih]
@[simp] theorem writeBytes_iv (a : Nat) (bs : List Byte) : (writeBytes s a bs).iv = s.iv := by
  induction bs generalizing s a with
  | nil => rfl
  | cons b bs ih => simp [writeBytes, ih]
@[simp] theorem writeBytes_res (a : Nat) (bs : List Byte) : (writeBytes s a bs).res = s.res := by
  induction bs generalizing s a with
  | nil => rfl
  | cons b bs ih => simp [writeBytes, ih]
@[simp] theorem writeBytes_ctx (a : Nat) (bs : List Byte) : (writeBytes s a bs).ctx = s.ctx := by
  induction bs generalizing s a with
  | nil => rfl
  | cons b bs ih => simp [writeBytes, ih]
@[simp] theorem writeBytes_faults (a : Nat) (bs : List Byte) : (writeBytes s a bs).faults = s.faults := by
  induction bs generalizing s a with
  | nil => rfl
  | cons b bs ih => simp [writeBytes, ih]
@[simp] theorem writeBytes_draw (a : Nat) (bs : List Byte) : (writeBytes s a bs).draw = s.draw := by
  induction bs generalizing s a with
  | nil => rfl
  | cons b bs ih => simp [writeBytes, ih]
@[simp] theorem writeBytes_bus (a : Nat) (bs : List Byte) : (writeBytes s a bs).bus = s.bus := by
  induction bs generalizing s a with
  | nil => rfl
  | cons b bs ih => simp [writeBytes, ih]
@[simp] theorem writeBytes_resp (a : Nat) (bs : List Byte) : (writeBytes s a bs).resp = s.resp := by
  induction bs generalizing s a with
  | nil => rfl
  | cons b bs ih => simp [writeBytes, ih]

@[simp] theorem writeWord_params (a : Nat) (v : Word) : (writeWord s a v).params = s.params := by
  simp [writeWord]
@[simp] theorem writeWord_cmd (a : Nat) (v : Word) : (writeWord s a v).cmd = s.cmd := by
  simp [writeWord]
@[simp] theorem writeWord_status (a : Nat) (v : Word) : (writeWord s a v).status = s.status := by
  simp [writeWord]
@[simp] theorem writeWord_doneie (a : Nat) (v : Word) : (writeWord s a v).doneie = s.doneie := by
  simp [writeWord]
@[simp] theorem writeWord_length (a : Nat) (v : Word) : (writeWord s a v).length = s.length := by
  simp [writeWord]
@[simp] theorem writeWord_count (a : Nat) (v : Word) : (writeWord s a v).count = s.count := by
  simp [writeWord]
@[simp] theorem writeWord_bearer (a : Nat) (v : Word) : (writeWord s a v).bearer = s.bearer := by
  simp [writeWord]
@[simp] theorem writeWord_direction (a : Nat) (v : Word) : (writeWord s a v).direction = s.direction := by
  simp [writeWord]
@[simp] theorem writeWord_fresh (a : Nat) (v : Word) : (writeWord s a v).fresh = s.fresh := by
  simp [writeWord]
@[simp] theorem writeWord_nwords (a : Nat) (v : Word) : (writeWord s a v).nwords = s.nwords := by
  simp [writeWord]
@[simp] theorem writeWord_key (a : Nat) (v : Word) : (writeWord s a v).key = s.key := by
  simp [writeWord]
@[simp] theorem writeWord_iv (a : Nat) (v : Word) : (writeWord s a v).iv = s.iv := by
  simp [writeWord]
@[simp] theorem writeWord_res (a : Nat) (v : Word) : (writeWord s a v).res = s.res := by
  simp [writeWord]
@[simp] theorem writeWord_ctx (a : Nat) (v : Word) : (writeWord s a v).ctx = s.ctx := by
  simp [writeWord]
@[simp] theorem writeWord_faults (a : Nat) (v : Word) : (writeWord s a v).faults = s.faults := by
  simp [writeWord]
@[simp] theorem writeWord_draw (a : Nat) (v : Word) : (writeWord s a v).draw = s.draw := by
  simp [writeWord]
@[simp] theorem writeWord_bus (a : Nat) (v : Word) : (writeWord s a v).bus = s.bus := by
  simp [writeWord]
@[simp] theorem writeWord_resp (a : Nat) (v : Word) : (writeWord s a v).resp = s.resp := by
  simp [writeWord]

@[simp] theorem applyKeystream_params (ks : List Byte) : (applyKeystream s ks).params = s.params := by
  simp [applyKeystream]
@[simp] theorem applyKeystream_cmd (ks : List Byte) : (applyKeystream s ks).cmd = s.cmd := by
  simp [applyKeystream]
@[simp] theorem applyKeystream_status (ks : List Byte) : (applyKeystream s ks).status = s.status := by
  simp [applyKeystream]
@[simp] theorem applyKeystream_doneie (ks : List Byte) : (applyKeystream s ks).doneie = s.doneie := by
  simp [applyKeystream]
@[simp] theorem applyKeystream_length (ks : List Byte) : (applyKeystream s ks).length = s.length := by
  simp [applyKeystream]
@[simp] theorem applyKeystream_count (ks : List Byte) : (applyKeystream s ks).count = s.count := by
  simp [applyKeystream]
@[simp] theorem applyKeystream_bearer (ks : List Byte) : (applyKeystream s ks).bearer = s.bearer := by
  simp [applyKeystream]
@[simp] theorem applyKeystream_direction (ks : List Byte) : (applyKeystream s ks).direction = s.direction := by
  simp [applyKeystream]
@[simp] theorem applyKeystream_fresh (ks : List Byte) : (applyKeystream s ks).fresh = s.fresh := by
  simp [applyKeystream]
@[simp] theorem applyKeystream_nwords (ks : List Byte) : (applyKeystream s ks).nwords = s.nwords := by
  simp [applyKeystream]
@[simp] theorem applyKeystream_key (ks : List Byte) : (applyKeystream s ks).key = s.key := by
  simp [applyKeystream]
@[simp] theorem applyKeystream_iv (ks : List Byte) : (applyKeystream s ks).iv = s.iv := by
  simp [applyKeystream]
@[simp] theorem applyKeystream_res (ks : List Byte) : (applyKeystream s ks).res = s.res := by
  simp [applyKeystream]
@[simp] theorem applyKeystream_ctx (ks : List Byte) : (applyKeystream s ks).ctx = s.ctx := by
  simp [applyKeystream]
@[simp] theorem applyKeystream_faults (ks : List Byte) : (applyKeystream s ks).faults = s.faults := by
  simp [applyKeystream]
@[simp] theorem applyKeystream_draw (ks : List Byte) : (applyKeystream s ks).draw = s.draw := by
  simp [applyKeystream]
@[simp] theorem applyKeystream_bus (ks : List Byte) : (applyKeystream s ks).bus = s.bus := by
  simp [applyKeystream]
@[simp] theorem applyKeystream_resp (ks : List Byte) : (applyKeystream s ks).resp = s.resp := by
  simp [applyKeystream]

@[simp] theorem storeKeystream_params (zs : List Word) : (storeKeystream s zs).params = s.params := by
  simp [storeKeystream]
@[simp] theorem storeKeystream_cmd (zs : List Word) : (storeKeystream s zs).cmd = s.cmd := by
  simp [storeKeystream]
@[simp] theorem storeKeystream_status (zs : List Word) : (storeKeystream s zs).status = s.status := by
  simp [storeKeystream]
@[simp] theorem storeKeystream_doneie (zs : List Word) : (storeKeystream s zs).doneie = s.doneie := by
  simp [storeKeystream]
@[simp] theorem storeKeystream_length (zs : List Word) : (storeKeystream s zs).length = s.length := by
  simp [storeKeystream]
@[simp] theorem storeKeystream_count (zs : List Word) : (storeKeystream s zs).count = s.count := by
  simp [storeKeystream]
@[simp] theorem storeKeystream_bearer (zs : List Word) : (storeKeystream s zs).bearer = s.bearer := by
  simp [storeKeystream]
@[simp] theorem storeKeystream_direction (zs : List Word) : (storeKeystream s zs).direction = s.direction := by
  simp [storeKeystream]
@[simp] theorem storeKeystream_fresh (zs : List Word) : (storeKeystream s zs).fresh = s.fresh := by
  simp [storeKeystream]
@[simp] theorem storeKeystream_nwords (zs : List Word) : (storeKeystream s zs).nwords = s.nwords := by
  simp [storeKeystream]
@[simp] theorem storeKeystream_key (zs : List Word) : (storeKeystream s zs).key = s.key := by
  simp [storeKeystream]
@[simp] theorem storeKeystream_iv (zs : List Word) : (storeKeystream s zs).iv = s.iv := by
  simp [storeKeystream]
@[simp] theorem storeKeystream_res (zs : List Word) : (storeKeystream s zs).res = s.res := by
  simp [storeKeystream]
@[simp] theorem storeKeystream_ctx (zs : List Word) : (storeKeystream s zs).ctx = s.ctx := by
  simp [storeKeystream]
@[simp] theorem storeKeystream_faults (zs : List Word) : (storeKeystream s zs).faults = s.faults := by
  simp [storeKeystream]
@[simp] theorem storeKeystream_draw (zs : List Word) : (storeKeystream s zs).draw = s.draw := by
  simp [storeKeystream]
@[simp] theorem storeKeystream_bus (zs : List Word) : (storeKeystream s zs).bus = s.bus := by
  simp [storeKeystream]
@[simp] theorem storeKeystream_resp (zs : List Word) : (storeKeystream s zs).resp = s.resp := by
  simp [storeKeystream]

/-! ### reset -/

@[simp] theorem resetTurn_params : (resetTurn s).params = s.params := rfl
@[simp] theorem resetTurn_cmd : (resetTurn s).cmd = 0 := rfl
@[simp] theorem resetTurn_status : (resetTurn s).status = .reset := rfl
@[simp] theorem resetTurn_doneie : (resetTurn s).doneie = false := rfl
@[simp] theorem resetTurn_length : (resetTurn s).length = 0 := rfl
@[simp] theorem resetTurn_count : (resetTurn s).count = 0 := rfl
@[simp] theorem resetTurn_bearer : (resetTurn s).bearer = 0 := rfl
@[simp] theorem resetTurn_direction : (resetTurn s).direction = 0 := rfl
@[simp] theorem resetTurn_fresh : (resetTurn s).fresh = 0 := rfl
@[simp] theorem resetTurn_nwords : (resetTurn s).nwords = 0 := rfl
@[simp] theorem resetTurn_key : (resetTurn s).key = .zero := rfl
@[simp] theorem resetTurn_iv : (resetTurn s).iv = .zero := rfl
@[simp] theorem resetTurn_res : (resetTurn s).res = .zero := rfl
@[simp] theorem resetTurn_mem : (resetTurn s).mem = [] := rfl
@[simp] theorem resetTurn_ctx : (resetTurn s).ctx = List.replicate s.params.nCtx .clear := rfl
@[simp] theorem resetTurn_faults : (resetTurn s).faults = s.faults := rfl
@[simp] theorem resetTurn_draw : (resetTurn s).draw = s.draw + 1 := rfl
@[simp] theorem resetTurn_bus : (resetTurn s).bus = s.bus := rfl
@[simp] theorem resetTurn_resp : (resetTurn s).resp = .none := rfl

end Sys2Proof.Machine
end

