-- ==== Sys2Proof/Laws/Memory.lean ====
section
/-! SUPPORT. The laws of memory: a read after a write, the canonical form that every memory operation
keeps, and which offsets an operation lists. -/

namespace Sys2Proof.Machine

/-! ## Read after write -/

theorem Memory.get?_write (m : Memory) (a : Nat) (b : Byte) (x : Nat) :
    (m.write a b).get? x = if x = a then some b else m.get? x := by
  induction m with
  | nil => simp [Memory.write, Memory.get?, eq_comm]
  | cons p m ih =>
    obtain ⟨k, v⟩ := p
    simp only [Memory.write]
    split
    · simp [Memory.get?, eq_comm]
    · split
      · rename_i hak
        rw [hak]
        simp only [Memory.get?]
        by_cases h : x = k
        · simp [h]
        · simp [h, Ne.symm h]
      · simp only [Memory.get?, ih]
        by_cases h : k = x
        · subst h
          simp [show k ≠ a by omega]
        · simp [h]

theorem readByte_writeByte (s : State) (a : Nat) (b : Byte) (x : Nat) :
    readByte (writeByte s a b) x = if x = a then b else readByte s x := by
  simp only [readByte, writeByte_mem, writeByte_draw, Memory.get?_write]
  split <;> simp

/-- A byte outside the stored range reads as before. -/
theorem readByte_writeBytes_of_out (s : State) (a : Nat) (bs : List Byte) (x : Nat)
    (h : x < a ∨ a + bs.length ≤ x) : readByte (writeBytes s a bs) x = readByte s x := by
  induction bs generalizing s a with
  | nil => rfl
  | cons b bs ih =>
    simp only [List.length_cons] at h
    rw [writeBytes, ih _ _ (by omega), readByte_writeByte, if_neg (by omega)]

/-- A byte inside the stored range reads as it was stored. -/
theorem readByte_writeBytes_of_in (s : State) (a : Nat) (bs : List Byte) (i : Nat)
    (h : i < bs.length) : readByte (writeBytes s a bs) (a + i) = bs[i] := by
  induction bs generalizing s a i with
  | nil => simp at h
  | cons b bs ih =>
    rw [writeBytes]
    cases i with
    | zero =>
      rw [readByte_writeBytes_of_out _ _ _ _ (by omega), readByte_writeByte]
      simp
    | succ i =>
      rw [show a + (i + 1) = a + 1 + i by omega, ih _ _ _ (by simpa using h)]
      simp

/-- Reading looks at memory and the draw only. -/
theorem readByte_congr {s t : State} (hm : t.mem = s.mem) (hd : t.draw = s.draw) (x : Nat) :
    readByte t x = readByte s x := by
  simp [readByte, hm, hd]

@[simp] theorem readBytes_length (s : State) (a n : Nat) : (readBytes s a n).length = n := by
  simp [readBytes]

@[simp] theorem readBytes_getElem (s : State) (a n i : Nat) (h : i < (readBytes s a n).length) :
    (readBytes s a n)[i] = readByte s (a + i) := by
  simp [readBytes]

@[simp] theorem messageBytes_length (s : State) :
    (messageBytes s).length = ceilDiv (opLength s) 8 := by
  simp [messageBytes]

@[simp] theorem wordBytes_length (v : Word) : (wordBytes v).length = 4 := rfl

/-! ## The canonical form -/

theorem Memory.wf_cons (a : Nat) (b : Byte) (m : Memory) :
    Memory.wf ((a, b) :: m) = true ↔ (∀ p ∈ m.head?, a < p.1) ∧ m.wf = true := by
  cases m with
  | nil => simp [Memory.wf]
  | cons p m => simp [Memory.wf]

theorem Memory.head?_write (m : Memory) (a : Nat) (b : Byte) :
    ∀ p ∈ (m.write a b).head?, p.1 = a ∨ ∃ q ∈ m.head?, p.1 = q.1 := by
  cases m with
  | nil => simp [Memory.write]
  | cons q m =>
    obtain ⟨k, v⟩ := q
    simp only [Memory.write]
    split
    · simp
    · split <;> simp

/-- A write keeps the canonical form. -/
theorem Memory.wf_write {m : Memory} (h : m.wf = true) (a : Nat) (b : Byte) :
    (m.write a b).wf = true := by
  induction m with
  | nil => rfl
  | cons q m ih =>
    obtain ⟨k, v⟩ := q
    rw [Memory.wf_cons] at h
    simp only [Memory.write]
    split
    · rw [Memory.wf_cons, Memory.wf_cons]
      exact ⟨by simpa, h⟩
    · split
      · subst_vars
        exact (Memory.wf_cons _ _ _).mpr h
      · refine (Memory.wf_cons _ _ _).mpr ⟨fun p hp => ?_, ih h.2⟩
        obtain hp | ⟨q, hq, hp⟩ := Memory.head?_write m a b p hp
        · omega
        · have := h.1 q hq
          omega

theorem writeByte_wf {s : State} (h : s.mem.wf = true) (a : Nat) (b : Byte) :
    (writeByte s a b).mem.wf = true := Memory.wf_write h a b

theorem writeBytes_wf {s : State} (h : s.mem.wf = true) (a : Nat) (bs : List Byte) :
    (writeBytes s a bs).mem.wf = true := by
  induction bs generalizing s a with
  | nil => exact h
  | cons b bs ih => exact ih (writeByte_wf h a b) _

theorem writeWord_wf {s : State} (h : s.mem.wf = true) (a : Nat) (v : Word) :
    (writeWord s a v).mem.wf = true := writeBytes_wf h _ _

theorem applyKeystream_wf {s : State} (h : s.mem.wf = true) (ks : List Byte) :
    (applyKeystream s ks).mem.wf = true := writeBytes_wf h _ _

theorem storeKeystream_wf {s : State} (h : s.mem.wf = true) (zs : List Word) :
    (storeKeystream s zs).mem.wf = true := writeBytes_wf h _ _

theorem resetTurn_wf (s : State) : (resetTurn s).mem.wf = true := rfl

theorem reset_mem_wf : State.reset.mem.wf = true := rfl

/-! ## Which offsets are listed -/

theorem Memory.mem_write {m : Memory} {a : Nat} {b : Byte} {x : Host.Cell}
    (h : x ∈ m.write a b) : x = (a, b) ∨ x ∈ m := by
  induction m with
  | nil => simpa [Memory.write] using h
  | cons q m ih =>
    obtain ⟨k, v⟩ := q
    simp only [Memory.write] at h
    split at h
    · simpa using h
    · split at h
      · simp only [List.mem_cons] at h ⊢
        tauto
      · simp only [List.mem_cons] at h ⊢
        obtain h | h := h
        · exact .inr (.inl h)
        · have := ih h
          tauto

/-- `writeBytes` lists offsets of its range only. -/
theorem writeBytes_listed {s : State} {a : Nat} {bs : List Byte} {x : Host.Cell}
    (h : x ∈ (writeBytes s a bs).mem) :
    (a ≤ x.1 ∧ x.1 < a + bs.length) ∨ x ∈ s.mem := by
  induction bs generalizing s a with
  | nil => exact .inr h
  | cons b bs ih =>
    obtain h | h := ih h
    · exact .inl (by simp only [List.length_cons]; omega)
    · obtain rfl | h := Memory.mem_write h
      · exact .inl (by simp)
      · exact .inr h

end Sys2Proof.Machine
end

