-- ==== Sys2Proof/Laws/Step.lean ====
section
/-! SUPPORT. What the shared operations of an engine step and of a step can do, each said once. -/

namespace Sys2Proof.Machine

/-- What a command does when Check reports no error. -/
def performOf (i : Instr) : State → State :=
  match i with
  | .nop => id
  | .kasumiKs c => performKasumiKs c
  | .kasumiEnc c => performKasumiEnc c
  | .kasumiF8 => performKasumiF8
  | .kasumiF9 => performKasumiF9
  | .snow3gInit c => performSnow3gInit c
  | .snow3gGenks c => performSnow3gGenks c
  | .snow3gUea2 => performSnow3gUea2
  | .snow3gUia2 => performSnow3gUia2
  | .zucInit c => performZucInit c
  | .zucGenks c => performZucGenks c
  | .zucEea3 => performZucEea3
  | .zucEia3 => performZucEia3
  | .comp128V1 => performComp128V1
  | .comp128V2 => performComp128V2
  | .comp128V3 => performComp128V3
  | .keccakP1600 => performKeccakP1600
  | .ctxClear c => performCtxClear c

/-- Every arm of `exec` is an engine step (30_encoding.md R116) of its check and its own effect. -/
theorem exec_eq (i : Instr) (s : State) :
    exec i s = engineStep (check i s) (performOf i) s := by
  cases i <;> rfl

theorem engineStep_none (p : State → State) (s : State) :
    engineStep .none p s = .next (complete (p s)) := rfl

theorem engineStep_error {e : ErrCode} (h : e ≠ .none) (p : State → State) (s : State) :
    engineStep e p s = .next (raiseError e s) := by
  simp [engineStep, h]

/-- Everything an engine step can do: complete with the command's effect, or report an error. -/
theorem engineStep_cases {e : ErrCode} {p : State → State} {s t : State}
    (h : engineStep e p s = .next t) :
    (e = .none ∧ t = complete (p s)) ∨ (e ≠ .none ∧ t = raiseError e s) := by
  unfold engineStep at h
  split at h
  · exact .inl ⟨‹_›, by injection h with h; exact h.symm⟩
  · exact .inr ⟨‹_›, by injection h with h; exact h.symm⟩

/-- Check reports no error exactly when none of its conditions holds (60_exceptions.md R362). -/
theorem check_eq_none_iff (i : Instr) (s : State) :
    check i s = .none ↔
      slotMissing i s = false ∧ (usesBearer i = true → s.bearer.toNat ≤ 31) ∧
      (usesDirection i = true → s.direction.toNat ≤ 1) ∧
      (usesLength i = true → opLength s ≤ 8 * s.params.dbufBytes) ∧
      (usesNwords i = true → opNwords s ≤ s.params.dbufBytes / 4) ∧ recordMissing i s = false := by
  unfold check
  constructor
  · intro h
    split at h
    · cases h
    split at h
    · cases h
    split at h
    · cases h
    split at h
    · cases h
    split at h
    · cases h
    split at h
    · cases h
    simp_all
  · rintro ⟨h1, h2, h3, h4, h5, h6⟩
    rw [if_neg (by simp [h1]), if_neg (fun h => by have := h2 h.1; omega),
      if_neg (fun h => by have := h3 h.1; omega), if_neg (fun h => by have := h4 h.1; omega),
      if_neg (fun h => by have := h5 h.1; omega), if_neg (by simp [h6])]

/-- Everything a turn of the engine can do. -/
theorem engineTurn_cases {s t : State} (h : engineTurn s = .next t) :
    (s.status.busy = false ∧ t = s) ∨
    (s.status.busy = true ∧ (∃ e, decode s.cmd = .error e) ∧ t = raiseError .illegal s) ∨
    (s.status.busy = true ∧ ∃ i, decode s.cmd = .ok i ∧ exec i s = .next t) := by
  unfold engineTurn at h
  split at h
  · rename_i hb
    split at h
    · rename_i e he
      exact .inr (.inl ⟨hb, ⟨e, he⟩, by injection h with h; exact h.symm⟩)
    · rename_i i hi
      exact .inr (.inr ⟨hb, i, hi, h⟩)
  · rename_i hb
    exact .inl ⟨by simpa using hb, by injection h with h; exact h.symm⟩

/-- Everything a host access can do (20_memory.md R84). -/
theorem hostAccess_cases (a : Access) (s : State) :
    (accessTarget a s = none ∧ hostAccess a s = busError a s) ∨
    ∃ r, accessTarget a s = some r ∧ hostAccess a s = performAccess a.kind r a.value s := by
  unfold hostAccess
  cases h : accessTarget a s with
  | none => exact .inl ⟨rfl, rfl⟩
  | some r => exact .inr ⟨r, rfl, rfl⟩

/-- When an access reaches a register (20_memory.md R82, R84, R86). -/
theorem accessTarget_eq_some_iff (a : Access) (s : State) (r : Reg) :
    accessTarget a s = some r ↔
      a.kind.isWord = true ∧ a.offset.toNat % 4 = 0 ∧
      Reg.ofOffset s.params a.offset.toNat = some r ∧
      (s.status.busy = true → allowedWhileBusy a.kind r = true) := by
  unfold accessTarget
  by_cases hw : a.kind.isWord = true ∧ a.offset.toNat % 4 = 0
  · rw [if_pos hw]
    cases ho : Reg.ofOffset s.params a.offset.toNat with
    | none => simp
    | some q =>
      dsimp only
      by_cases hb : s.status.busy = true <;> by_cases ha : allowedWhileBusy a.kind q = true <;>
        simp [hb, ha, hw]
      all_goals
        intro hq
        subst hq
        simp_all
  · rw [if_neg hw]
    constructor
    · intro h; cases h
    · rintro ⟨h1, h2, -, -⟩
      exact absurd ⟨h1, h2⟩ hw

/-- Everything a step can do. -/
theorem step_cases {s t : State} (h : step s = .next t) :
    (s.bus = [] ∧ engineTurn s = .next t) ∨
    (∃ a es, s.bus = .access a :: es ∧ s.faults = [] ∧ t = hostAccess a (setBus s es)) ∨
    (∃ es, s.bus = .engine :: es ∧ engineTurn (setBus s es) = .next t) ∨
    (∃ es, s.bus = .reset :: es ∧ t = resetTurn (setBus s es)) := by
  unfold step at h
  split at h
  · exact .inl ⟨‹_›, h⟩
  · rename_i a es hb
    unfold hostTurn at h
    split at h
    · rename_i hf
      exact .inr (.inl ⟨a, es, hb, hf, by injection h with h; exact h.symm⟩)
    · cases h
  · rename_i es hb
    exact .inr (.inr (.inl ⟨es, hb, h⟩))
  · rename_i es hb
    exact .inr (.inr (.inr ⟨es, hb, by injection h with h; exact h.symm⟩))

end Sys2Proof.Machine
end

