-- ==== Sys2Proof/Laws/Hosts.lean ====
section
/-! SUPPORT. What a step of the block with its hosts can do, said once. -/

namespace Sys2Proof.Machine

theorem withHosts_eq_next {o : Host.Outcome State Fault Refusal} {q : Option Sequence}
    {ms : List Move} {h : Hosted} :
    withHosts o q ms = .next h ↔ ∃ t, o = .next t ∧ h = { block := t, seq := q, moves := ms } := by
  cases o <;> simp [withHosts, eq_comm]

/-- Everything a step of the block with its hosts can do. -/
theorem hostedStep_cases {h h' : Hosted} (e : hostedStep h = .next h') :
    (h.moves = [] ∧ ∃ t, step (setBus h.block []) = .next t ∧
      h' = { block := t, seq := h.seq, moves := [] }) ∨
    (∃ n a rs ms, h.moves = .access n a rs :: ms ∧ mayMove n a h.seq h.block = true ∧
      ∃ t, step (setBus h.block [.access a]) = .next t ∧
        h' = { block := t, seq := seqAfter n a rs h.block h.seq, moves := ms }) ∨
    (∃ ms, h.moves = .engine :: ms ∧ ∃ t, step (setBus h.block [.engine]) = .next t ∧
      h' = { block := t, seq := h.seq, moves := ms }) ∨
    (∃ ms, h.moves = .reset :: ms ∧ ∃ t, step (setBus h.block [.reset]) = .next t ∧
      h' = { block := t, seq := none, moves := ms }) := by
  unfold hostedStep at e
  split at e
  · exact .inl ⟨‹_›, withHosts_eq_next.mp e⟩
  · rename_i n a rs ms hm
    split at e
    · exact .inr (.inl ⟨n, a, rs, ms, hm, ‹_›, withHosts_eq_next.mp e⟩)
    · cases e
  · exact .inr (.inr (.inl ⟨_, ‹_›, withHosts_eq_next.mp e⟩))
  · exact .inr (.inr (.inr ⟨_, ‹_›, withHosts_eq_next.mp e⟩))

/-- A host that breaks a duty has no next state. -/
theorem hostedStep_of_not_mayMove {h : Hosted} {n : Nat} {a : Access} {rs : List (BitVec 16)}
    {ms : List Move} (hm : h.moves = .access n a rs :: ms) (hb : mayMove n a h.seq h.block = false) :
    hostedStep h = .fault .dutyBroken := by
  simp [hostedStep, hm, hb]

/-- A liberty is every host's move at any time (60_exceptions.md R376). -/
theorem mayMove_of_isLiberty {n : Nat} {a : Access} {q : Option Sequence} {s : State}
    (h : a.isLiberty s.params = true) : mayMove n a q s = true := by
  simp [mayMove, h]

/-- When an access that is no liberty is a move of host `n` while a sequence is in hand. -/
theorem mayMove_some_iff {n : Nat} {a : Access} {q : Sequence} {s : State}
    (h : a.isLiberty s.params = false) :
    mayMove n a (some q) s = true ↔ q.host = n ∧ q.phase ≠ .launched ∧
      ¬ (a.isLaunch = true ∧ ∃ o ∈ q.owed, overwrites a.value s o = true) := by
  cases hl : a.isLaunch <;> simp [mayMove, h, hl, and_assoc]

/-- A launch that is no command, or fails Check, has no results (60_exceptions.md R365). -/
theorem launchResults_of_checkWord_ne {w : Word} {s : State} (h : checkWord w s ≠ .none) :
    launchResults w s = [] := by
  unfold checkWord at h
  unfold launchResults
  cases hd : decode w with
  | error e => rfl
  | ok i => rw [hd] at h; simp [h]

/-- So it overwrites nothing. -/
theorem overwrites_of_checkWord_ne {w : Word} {s : State} {d : Stretch} (h : checkWord w s ≠ .none) :
    overwrites w s d = false := by
  simp [overwrites, launchResults_of_checkWord_ne h]

/-- And it leaves its host nothing to read. -/
theorem launchOwes_of_checkWord_ne {w : Word} {s : State} {names : List (BitVec 16)}
    (h : checkWord w s ≠ .none) : launchOwes w s names = [] := by
  simp [launchOwes, launchResults_of_checkWord_ne h]

/-- Every result of a launched command is owed. -/
theorem launchResults_subset_launchOwes {w : Word} {s : State} {names : List (BitVec 16)} {d : Stretch}
    (h : d ∈ launchResults w s) : d ∈ launchOwes w s names :=
  List.mem_append_left _ h

end Sys2Proof.Machine
end

