-- ==== Sys2Proof/Laws/PerInstr.lean ====
section
/-! SUPPORT. A family of statements made per instruction: where the fields of a command's word stand
(30_encoding.md R111): RSV is 0, OP is the command's own, CTX is its slot. -/

namespace Sys2Proof.Laws.WordFields

/-- The three fields of the encoded word of a well-formed command. -/
def Statement (i : Instr) : Prop :=
  i.wellFormed = true →
    rsvField (encode i) = 0 ∧ opField (encode i) = (encodeOp i).toNat ∧
      ctxField (encode i) = i.slot?.getD 0

/-- The fields of a word put together from OP and a slot. -/
theorem fields_of_parts (c : Nat) (hc : c < 16) (op : BitVec 8) :
    rsvField ((0 : BitVec 20) ++ BitVec.ofNat 4 c ++ op) = 0 ∧
    opField ((0 : BitVec 20) ++ BitVec.ofNat 4 c ++ op) = op.toNat ∧
    ctxField ((0 : BitVec 20) ++ BitVec.ofNat 4 c ++ op) = c := by
  have h1 : ((0 : BitVec 20) ++ BitVec.ofNat 4 c ++ op).toNat = c * 256 + op.toNat := by
    have := op.isLt
    rw [BitVec.toNat_append, BitVec.toNat_append, ← Nat.shiftLeft_add_eq_or_of_lt op.isLt,
      ← Nat.shiftLeft_add_eq_or_of_lt (BitVec.ofNat 4 c).isLt]
    simp only [BitVec.toNat_ofNat, Nat.shiftLeft_eq, show (0 : BitVec 20).toNat = 0 from rfl]
    omega
  have := op.isLt
  simp only [rsvField, opField, ctxField, BitVec.extractLsb'_toNat, h1, Nat.shiftRight_eq_div_pow]
  omega

theorem nop : Statement .nop := fun _ => fields_of_parts 0 (by omega) _
theorem kasumiKs (c : Nat) : Statement (.kasumiKs c) := fun h =>
  fields_of_parts c (by simpa [Instr.wellFormed, Instr.slot?] using h) _
theorem kasumiEnc (c : Nat) : Statement (.kasumiEnc c) := fun h =>
  fields_of_parts c (by simpa [Instr.wellFormed, Instr.slot?] using h) _
theorem kasumiF8 : Statement .kasumiF8 := fun _ => fields_of_parts 0 (by omega) _
theorem kasumiF9 : Statement .kasumiF9 := fun _ => fields_of_parts 0 (by omega) _
theorem snow3gInit (c : Nat) : Statement (.snow3gInit c) := fun h =>
  fields_of_parts c (by simpa [Instr.wellFormed, Instr.slot?] using h) _
theorem snow3gGenks (c : Nat) : Statement (.snow3gGenks c) := fun h =>
  fields_of_parts c (by simpa [Instr.wellFormed, Instr.slot?] using h) _
theorem snow3gUea2 : Statement .snow3gUea2 := fun _ => fields_of_parts 0 (by omega) _
theorem snow3gUia2 : Statement .snow3gUia2 := fun _ => fields_of_parts 0 (by omega) _
theorem zucInit (c : Nat) : Statement (.zucInit c) := fun h =>
  fields_of_parts c (by simpa [Instr.wellFormed, Instr.slot?] using h) _
theorem zucGenks (c : Nat) : Statement (.zucGenks c) := fun h =>
  fields_of_parts c (by simpa [Instr.wellFormed, Instr.slot?] using h) _
theorem zucEea3 : Statement .zucEea3 := fun _ => fields_of_parts 0 (by omega) _
theorem zucEia3 : Statement .zucEia3 := fun _ => fields_of_parts 0 (by omega) _
theorem comp128V1 : Statement .comp128V1 := fun _ => fields_of_parts 0 (by omega) _
theorem comp128V2 : Statement .comp128V2 := fun _ => fields_of_parts 0 (by omega) _
theorem comp128V3 : Statement .comp128V3 := fun _ => fields_of_parts 0 (by omega) _
theorem keccakP1600 : Statement .keccakP1600 := fun _ => fields_of_parts 0 (by omega) _
theorem ctxClear (c : Nat) : Statement (.ctxClear c) := fun h =>
  fields_of_parts c (by simpa [Instr.wellFormed, Instr.slot?] using h) _

end Sys2Proof.Laws.WordFields
end

