-- ==== Sys2Proof/Tests/Slice0.lean ====
section
/-! SUPPORT. Small tests of single definitions and single steps, their expected values taken from
95_test_vectors.md (named in each comment) or worked out by hand from a rule, and for every obligation
with hypotheses a witness that meets them. -/

namespace Sys2Proof.Tests

open Sys2Proof.Machine

set_option Elab.async false

/-! ## Helpers -/

/-- The outcome is a next state with property `p`. -/
def nextSat (o : Host.Outcome State Fault Refusal) (p : State → Bool) : Bool :=
  match o with
  | .next t => p t
  | .fault _ => false
  | .refused _ => false

/-- The outcome is this fault. -/
def faultIs (o : Host.Outcome State Fault Refusal) (f : Fault) : Bool :=
  match o with
  | .next _ => false
  | .fault g => g == f
  | .refused _ => false

theorem exists_next {o : Host.Outcome State Fault Refusal} {p : State → Bool}
    (h : nextSat o p = true) : ∃ t, o = .next t := by
  cases o with
  | next t => exact ⟨t, rfl⟩
  | fault f => simp [nextSat] at h
  | refused r => simp [nextSat] at h

/-- Every command has a next state in every state: engine steps end (30_encoding.md R116). -/
theorem exists_exec (i : Instr) (s : State) : ∃ t, exec i s = .next t := by
  rw [exec_eq]
  unfold engineStep
  split
  · exact ⟨_, rfl⟩
  · exact ⟨_, rfl⟩

/-- Bytes listed from an offset up. -/
def cellsFrom : Nat → List Byte → Memory
  | _, [] => []
  | a, b :: bs => (a, b) :: cellsFrom (a + 1) bs

/-- Reset, with these bytes in DBUF. -/
def withDbuf (bs : List Byte) (s : State) : State := { s with mem := cellsFrom 0x1000 bs }

/-- The "set-1 key" of 95_test_vectors.md in KEY0 to KEY3. -/
def set1 : Quad := { w0 := 0x2BD6459F, w1 := 0x82C5B300, w2 := 0x952C4910, w3 := 0x4881FF48 }

/-- Reset, with the set-1 key in KEY. -/
def keyed : State := { State.reset with key := set1 }

/-- The message of vectors G3 and G6. -/
def msgG3 : List Byte :=
  [0x6B, 0x22, 0x77, 0x37, 0x29, 0x6F, 0x39, 0x3C, 0x80, 0x79, 0x35, 0x3E, 0xDC, 0x87, 0xE2, 0xE8,
   0x05, 0xD2, 0xEC, 0x49, 0xA4, 0xF2, 0xD8, 0xE0]

/-- The operands of vectors G3 and G6. -/
def stateG3 : State :=
  withDbuf msgG3 { keyed with count := 0x38A6F056, fresh := 0x05D2EC49, length := 189 }

/-- The CK of vector G5 in KEY. -/
def keyG5 : State :=
  { State.reset with
    key := { w0 := 0xD3C5D592, w1 := 0x327FB11C, w2 := 0x4035C668, w3 := 0x0AF8C6D1 } }

/-- The SNOW 3G state of rule R203. -/
def snowR203 : SnowGen :=
  { lfsr :=
      { s0 := 0xE003A052, s1 := 0x9241C929, s2 := 0x68D7BF8C, s3 := 0x16BF4C2A
        s4 := 0x8DEF9D70, s5 := 0x32381704, s6 := 0x11DD346A, s7 := 0xE18B81EA
        s8 := 0x77EBD4FE, s9 := 0x57ED9505, s10 := 0x0C33C0EF, s11 := 0x1A037B59
        s12 := 0x97591E82, s13 := 0xA91CCB44, s14 := 0x7B48E04F, s15 := 0x1646644C }
    r1 := 0xC4D71FFD, r2 := 0x90F0B31F, r3 := 0xCC612008 }

/-- The ZUC state of rule R253. -/
def zucR253 : ZucGen :=
  { lfsr :=
      { s0 := 0x747CA0C4, s1 := 0x6259DD0B, s2 := 0x47A94C2B, s3 := 0x3A89C82E
        s4 := 0x32B433FC, s5 := 0x231EA13F, s6 := 0x31711E42, s7 := 0x4CCCE955
        s8 := 0x3FB6071E, s9 := 0x161D3512, s10 := 0x7114B136, s11 := 0x5154D452
        s12 := 0x78C69A74, s13 := 0x4F26BA6B, s14 := 0x3E1B8D6A, s15 := 0x7F08E141 }
    r1 := 0x3512BF50, r2 := 0xA0920453 }

/-- A slot whose three records are valid. -/
def validSlot : Ctx :=
  { kas := { valid := true, keys := .zero }
    snow := { valid := true, gen := snowR203 }
    zuc := { valid := true, gen := zucR253 } }

/-- Reset, with three valid records in the one slot. -/
def loaded : State := { State.reset with ctx := [validSlot] }

/-- An instance with the most slots and the largest DBUF of 00_scope.md R8. -/
def wideParams : Params := { defaultParams with dbufBytes := 61440, nCtx := 16 }

/-- That instance after reset, with valid records in every slot. -/
def wide : State :=
  { State.afterReset wideParams 0 with ctx := List.replicate 16 validSlot }

/-- The command word `w` accepted in state `s`, nothing in store. -/
def launched (w : Word) (s : State) : State := acceptCommand s w

/-! ## WellFormed: an ill-formed term for each check, which the check refuses -/

theorem test_wellFormed_refuses_slot_16 :
    (Instr.kasumiKs 16).wellFormed = false ∧ (Instr.kasumiEnc 16).wellFormed = false ∧
    (Instr.snow3gInit 16).wellFormed = false ∧ (Instr.snow3gGenks 16).wellFormed = false ∧
    (Instr.zucInit 16).wellFormed = false ∧ (Instr.zucGenks 16).wellFormed = false ∧
    (Instr.ctxClear 16).wellFormed = false := by decide

theorem test_wellFormed_admits_slot_15 :
    (Instr.kasumiKs 15).wellFormed = true ∧ (Instr.ctxClear 15).wellFormed = true ∧
    Instr.nop.wellFormed = true := by decide

/-! ## Decode: one word per command, written out in bits from 30_encoding.md R111 and R113
(RSV 20 bits, CTX 4 bits, OP 8 bits), decoded and encoded -/

theorem test_decode_control :
    decode 0b00000000000000000000_0000_00000000#32 = .ok .nop ∧
    decode 0b00000000000000000000_1111_11110000#32 = .ok (.ctxClear 15) := by decide

theorem test_decode_kasumi :
    decode 0b00000000000000000000_0001_00000001#32 = .ok (.kasumiKs 1) ∧
    decode 0b00000000000000000000_1111_00000010#32 = .ok (.kasumiEnc 15) ∧
    decode 0b00000000000000000000_0000_00000011#32 = .ok .kasumiF8 ∧
    decode 0b00000000000000000000_0000_00000100#32 = .ok .kasumiF9 := by decide

theorem test_decode_snow3g :
    decode 0b00000000000000000000_0010_00010001#32 = .ok (.snow3gInit 2) ∧
    decode 0b00000000000000000000_1000_00010010#32 = .ok (.snow3gGenks 8) ∧
    decode 0b00000000000000000000_0000_00010011#32 = .ok .snow3gUea2 ∧
    decode 0b00000000000000000000_0000_00010100#32 = .ok .snow3gUia2 := by decide

theorem test_decode_zuc :
    decode 0b00000000000000000000_0100_00100001#32 = .ok (.zucInit 4) ∧
    decode 0b00000000000000000000_1010_00100010#32 = .ok (.zucGenks 10) ∧
    decode 0b00000000000000000000_0000_00100011#32 = .ok .zucEea3 ∧
    decode 0b00000000000000000000_0000_00100100#32 = .ok .zucEia3 := by decide

theorem test_decode_comp128_keccak :
    decode 0b00000000000000000000_0000_00110001#32 = .ok .comp128V1 ∧
    decode 0b00000000000000000000_0000_00110010#32 = .ok .comp128V2 ∧
    decode 0b00000000000000000000_0000_00110011#32 = .ok .comp128V3 ∧
    decode 0b00000000000000000000_0000_01000001#32 = .ok .keccakP1600 := by decide

/-- The encoder on one command of each family, against the same bits. -/
theorem test_encode :
    encode .nop = 0b00000000000000000000_0000_00000000#32 ∧
    encode (.kasumiEnc 15) = 0b00000000000000000000_1111_00000010#32 ∧
    encode (.snow3gGenks 8) = 0b00000000000000000000_1000_00010010#32 ∧
    encode .zucEia3 = 0b00000000000000000000_0000_00100100#32 ∧
    encode .comp128V3 = 0b00000000000000000000_0000_00110011#32 ∧
    encode .keccakP1600 = 0b00000000000000000000_0000_01000001#32 ∧
    encode (.ctxClear 3) = 0b00000000000000000000_0011_11110000#32 := by decide

/-- 30_encoding.md R114: OP without a row, the top RSV bit, CTX of a command without a slot. -/
theorem test_decode_refuses :
    decode 0b00000000000000000000_0000_00000101#32 = .error .undefinedOp ∧
    decode 0b10000000000000000000_0000_00000001#32 = .error .reservedBits ∧
    decode 0b00000000000000000000_1000_01000001#32 = .error .ctxNotZero := by decide

/-- The opcode table's words, slot 0, and the step that fetches each right after reset. -/
theorem test_every_row_is_fetched_and_run :
    ∀ p ∈ [((0x00 : Nat), Instr.nop), (0x01, .kasumiKs 0), (0x02, .kasumiEnc 0), (0x03, .kasumiF8),
        (0x04, .kasumiF9), (0x11, .snow3gInit 0), (0x12, .snow3gGenks 0), (0x13, .snow3gUea2),
        (0x14, .snow3gUia2), (0x21, .zucInit 0), (0x22, .zucGenks 0), (0x23, .zucEea3),
        (0x24, .zucEia3), (0x31, .comp128V1), (0x32, .comp128V2), (0x33, .comp128V3),
        (0x41, .keccakP1600), (0xF0, .ctxClear 0)],
      decodeTableWord 32 p.1 = some p.2 ∧
      nextSat (step (State.reset.withFetchWord 32 p.1)) (fun _ => true) = true := by
  decide +kernel

/-! ## Control and errors (95_test_vectors.md V-E1 to V-E15) -/

/-- V-E1. -/
theorem test_nop_status :
    nextSat (step (launched 0x00000000 State.reset)) (fun t => t.status.word == 0x00000002) = true := by
  decide +kernel

/-- V-E2, V-E3, V-E4. -/
theorem test_illegal_status :
    nextSat (step (launched 0x000000FF State.reset)) (fun t => t.status.word == 0x00000016) = true ∧
    nextSat (step (launched 0x00000103 State.reset)) (fun t => t.status.word == 0x00000016) = true ∧
    nextSat (step (launched 0x00001000 State.reset))
      (fun t => t.status.word == 0x00000016) = true := by
  decide +kernel

/-- V-E5. -/
theorem test_kasumiKs_missing_slot :
    nextSat (step (launched 0x00000101 State.reset))
      (fun t => t.status.word == 0x00000026 && t.ctx == State.reset.ctx) = true := by
  decide +kernel

/-- V-E7: PARAM before LENGTH. -/
theorem test_snow3gUia2_param_before_length :
    nextSat (step (launched 0x00000014 { State.reset with direction := 2, length := 70000 }))
      (fun t => t.status.word == 0x00000026 && t.res == .zero) = true := by
  decide +kernel

/-- V-E8, and V-E9's bound by `check` alone. -/
theorem test_length_bound :
    nextSat (step (launched 0x00000003 { State.reset with length := 65537 }))
      (fun t => t.status.word == 0x00000036) = true ∧
    check .kasumiF9 { State.reset with length := 65536 } = .none := by
  decide +kernel

/-- V-E10: LENGTH before NOCTX. -/
theorem test_snow3gGenks_length_before_noctx :
    nextSat (step (launched 0x00000012 { State.reset with nwords := 2049 }))
      (fun t => t.status.word == 0x00000036 && t.mem == []) = true := by
  decide +kernel

/-- V-E11. -/
theorem test_kasumiEnc_noctx :
    nextSat (step (launched 0x00000002 State.reset))
      (fun t => t.status.word == 0x00000046 && t.res == .zero) = true := by
  decide +kernel

/-- V-E12's second and third commands. -/
theorem test_ctxClear_then_noctx :
    nextSat (exec (.ctxClear 0) loaded) (fun t => t.ctx == [Ctx.clear] &&
      nextSat (exec (.kasumiEnc 0) t) (fun u => u.status.errcode == .noctx)) = true := by
  decide +kernel

/-- V-E13: acceptance clears ERR and ERRCODE. -/
theorem test_acceptance_clears_error :
    nextSat (step { State.reset with
        status := { busy := false, done := true, err := true, errcode := .noctx }
        bus := [asmCmd .nop] })
      (fun t => t.status.word == 0x00000001 && t.cmd == 0 && t.resp == .done) = true := by
  decide +kernel

/-- V-E14: a write of LENGTH while busy. -/
theorem test_busy_write_is_bus_error :
    nextSat (step { launched 0 State.reset with bus := [asmWr .length 5] })
      (fun t => t.status.word == 0x00000001 && t.length == 0 &&
        t.faults == [{ offset := 0x0010, kind := .write32 }] && t.resp == .busError) = true := by
  decide +kernel

/-- V-E15. -/
theorem test_cfg :
    readReg State.reset .cfg = 0x04000000 ∧
    readReg (State.afterReset { defaultParams with dbufBytes := 4096, nCtx := 4 } 0) .cfg =
      0x02000003 := by
  decide +kernel

/-! ## The host's window -/

/-- 10_state.md R42: KEY holds a write and reads 0. -/
theorem test_key_reads_zero :
    nextSat (step { State.reset with bus := [asmWr (.key 1) 0xCAFEF00D] })
      (fun t => t.key == { Quad.zero with w1 := 0xCAFEF00D } && readReg t (.key 1) == 0) = true := by
  decide +kernel

/-- 20_memory.md R83: byte 0 of a buffer word in bits 31:24. -/
theorem test_dbuf_word_is_big_endian :
    nextSat (step { State.reset with bus := [asmWr (.dbuf 1) 0x01020304] })
      (fun t => t.mem == [(0x1004, 0x01), (0x1005, 0x02), (0x1006, 0x03), (0x1007, 0x04)]) = true := by
  decide +kernel

/-- 20_memory.md R82, 10_state.md R47: a byte access, a misaligned word, the offset after CFG, the word
after DBUF. -/
theorem test_bad_accesses :
    ∀ a ∈ [({ kind := .read8, offset := 0x0008, value := 0 } : Access),
        { kind := .read32, offset := 0x0042, value := 0 },
        { kind := .write32, offset := 0x002C, value := 0 },
        { kind := .read32, offset := 0x3000, value := 0 }],
      nextSat (step { State.reset with bus := [.access a] }) (fun t => t.resp == .busError) = true := by
  decide +kernel

/-- 10_state.md R33: bit 1 clears DONE only, bit 2 clears ERR and ERRCODE only. -/
theorem test_acknowledge :
    (Status.writeW1C { busy := false, done := true, err := true, errcode := .param } 0x2).word =
      0x00000024 ∧
    (Status.writeW1C { busy := false, done := true, err := true, errcode := .param } 0x4).word =
      0x00000002 := by decide

/-- The run stops where a host access follows a recorded bus error (20_memory.md R84). -/
theorem test_host_stops_after_bus_error :
    faultIs (step { State.reset with
      bus := [asmRd .id], faults := [{ offset := 0x002C, kind := .read32 }] }) .hostStopped = true := by
  decide +kernel

/-- 20_memory.md R92: the bus address of CMD, and one past the window. -/
theorem test_bus_address :
    Access.ofBusAddress 0x40000 0x40004 .write32 7 =
      some { kind := .write32, offset := 0x0004, value := 7 } ∧
    Access.ofBusAddress 0x40000 0x50000 .read32 0 = none := by decide

/-! ## KASUMI -/

/-- The subkeys of rounds 1 and 8 of the set-1 key (95_test_vectors.md, KASUMI). -/
theorem test_kasumiKs_subkeys :
    nextSat (exec (.kasumiKs 0) keyed) (fun t =>
      (t.slot 0).kas.valid &&
      (t.slot 0).kas.keys.r1 ==
        { kl1 := 0x57AC, kl2 := 0x0B6E, ko1 := 0xB3E8, ko2 := 0x1049, ko3 := 0x2910
          ki1 := 0x6BF0, ki2 := 0x7EEF, ki3 := 0xCD58 } &&
      (t.slot 0).kas.keys.r8 ==
        { kl1 := 0xFE91, kl2 := 0x00F8, ko1 := 0x7AC5, ko2 := 0x2C95, ko3 := 0x0922
          ki1 := 0x7EEF, ki2 := 0x0B6E, ki3 := 0x3ED5 }) = true := by
  decide +kernel

/-- G1. -/
theorem test_kasumiEnc_g1 :
    nextSat (exec (.kasumiEnc 0) { State.reset with
        ctx := [{ Ctx.clear with
          kas := { valid := true, keys := keySchedule 0x2BD6459F82C5B300952C49104881FF48 } }]
        iv := { w0 := 0xEA024714, w1 := 0xAD5C4D84, w2 := 7, w3 := 7 } })
      (fun t => t.res == { w0 := 0xDF1F9B25, w1 := 0x1C0BF45F, w2 := 0, w3 := 0 }) = true := by
  decide +kernel

/-- V-K8: a length that ends inside a byte. -/
theorem test_kasumiF8_partial_byte :
    nextSat (exec .kasumiF8 (withDbuf [0xFF, 0xFF, 0xFF, 0xFF] { keyed with length := 9 }))
      (fun t => readBytes t 0x1000 4 == [0x02, 0xFF, 0xFF, 0xFF]) = true := by
  decide +kernel

/-- V-K11: two keystream blocks, every operand in use. -/
theorem test_kasumiF8_two_blocks :
    nextSat (exec .kasumiF8 (withDbuf (List.replicate 16 0)
        { keyed with count := 0x72A4F20F, bearer := 0x0C, direction := 1, length := 128 }))
      (fun t => readBytes t 0x1000 16 ==
        [0xAF, 0x24, 0xCC, 0x02, 0x9A, 0xC3, 0x9D, 0x08,
         0x23, 0xDD, 0x10, 0x41, 0xAE, 0xEC, 0xAE, 0x7B]) = true := by
  decide +kernel

/-- G3. -/
theorem test_kasumiF9_g3 :
    nextSat (exec .kasumiF9 stateG3)
      (fun t => t.res == { Quad.zero with w0 := 0xF63BD72C }) = true := by
  decide +kernel

/-- V-K13, DIR 1: the empty message. -/
theorem test_kasumiF9_empty :
    nextSat (exec .kasumiF9 { stateG3 with length := 0, direction := 1 })
      (fun t => t.res.w0 == 0xC17E7DA0) = true := by
  decide +kernel

/-! ## SNOW 3G -/

/-- V-S1, V-S2, V-S3. -/
theorem test_snow3g_functions :
    mulAlpha 0x01 = 0xE19FCF13 ∧ divAlpha 0x01 = 0x180F40CD ∧
    snowS1 0 = 0x63636363 ∧ snowS2 0 = 0x25252525 ∧
    mul64 1 2 = 2 ∧ mul64 0x8000000000000000 2 = 0x1B := by
  decide +kernel

/-- R203, R205. -/
theorem test_snow3gInit_r203 :
    nextSat (exec (.snow3gInit 0) { keyed with
        iv := { w0 := 0xEA024714, w1 := 0xAD5C4D84, w2 := 0xDF1F9B25, w3 := 0x1C0BF45F } })
      (fun t => (t.slot 0).snow == { valid := true, gen := snowR203 }) = true := by
  decide +kernel

/-- G4, from the state of R203. -/
theorem test_snow3gGenks_g4 :
    nextSat (exec (.snow3gGenks 0) { loaded with nwords := 2 })
      (fun t => readBytes t 0x1000 8 == [0xAB, 0xEE, 0x97, 0x04, 0x7A, 0xC3, 0x13, 0x73] &&
        snowWord (t.slot 0).snow.gen == 0xDEDC2F7A) = true := by
  decide +kernel

/-- V-S7: one bit. -/
theorem test_snow3gUea2_one_bit :
    nextSat (exec .snow3gUea2 (withDbuf [0xFF, 0xFF] { keyG5 with length := 1 }))
      (fun t => readBytes t 0x1000 2 == [0x7F, 0xFF]) = true := by
  decide +kernel

/-- G6, and V-S9: G6 with DIR 1. -/
theorem test_snow3gUia2_both_directions :
    nextSat (exec .snow3gUia2 stateG3)
      (fun t => t.res == { Quad.zero with w0 := 0x2BCE1820 }) = true ∧
    nextSat (exec .snow3gUia2 { stateG3 with direction := 1 })
      (fun t => t.res == { Quad.zero with w0 := 0x2F403C4E }) = true := by
  decide +kernel

/-! ## ZUC -/

/-- V-Z1, V-Z2. -/
theorem test_zuc_functions :
    zucL1 0x00000001 = 0x01040405 ∧ zucL2 0x00000001 = 0x40404101 ∧
    zucL1 0x80000000 = 0x80820202 ∧ zucL2 0xFFFFFFFF = 0xFFFFFFFF ∧
    zucS 0x00000000 = 0x3E553E55 ∧ zucS 0x01020304 = 0x7263473B := by
  decide +kernel

/-- R253, R255. -/
theorem test_zucInit_r253 :
    nextSat (exec (.zucInit 0) State.reset)
      (fun t => (t.slot 0).zuc == { valid := true, gen := zucR253 }) = true := by
  decide +kernel

/-- G7 and V-Z3, from the state of R253. -/
theorem test_zucGenks_g7 :
    nextSat (exec (.zucGenks 0) { loaded with nwords := 2 })
      (fun t => readBytes t 0x1000 8 == [0x27, 0xBE, 0xDE, 0x74, 0x01, 0x80, 0x82, 0xDA] &&
        zucWord (t.slot 0).zuc.gen == 0x87D4E5B6) = true := by
  decide +kernel

/-- V-Z7: a length that ends inside a word. -/
theorem test_zucEea3_33_bits :
    nextSat (exec .zucEea3 (withDbuf (List.replicate 5 0xFF) { State.reset with length := 33 }))
      (fun t => readBytes t 0x1000 5 == [0xD8, 0x41, 0x21, 0x8B, 0xFF]) = true := by
  decide +kernel

/-- V-Z8: DIRECTION in the IV. -/
theorem test_zucEea3_direction :
    nextSat (exec .zucEea3 (withDbuf (List.replicate 8 0) { State.reset with
        key := { w0 := 0x173D14BA, w1 := 0x5003731D, w2 := 0x7A600494, w3 := 0x70F00A29 }
        direction := 1, length := 64 }))
      (fun t => readBytes t 0x1000 8 ==
        [0xC1, 0xC1, 0xFC, 0x33, 0xB2, 0xCC, 0x28, 0xBC]) = true := by
  decide +kernel

/-- V-Z11: a message bit that is 1. -/
theorem test_zucEia3_one_bit :
    nextSat (exec .zucEia3 (withDbuf [0x80] { State.reset with length := 1 }))
      (fun t => t.res == { Quad.zero with w0 := 0xEF17872A }) = true := by
  decide +kernel

/-- G11. -/
theorem test_zucEia3_g11 :
    nextSat (exec .zucEia3 (withDbuf (List.replicate 12 0) { State.reset with
        key := { w0 := 0x47054125, w1 := 0x561EB2DD, w2 := 0xA94059DA, w3 := 0x05097850 }
        count := 0x561EB2DD, bearer := 0x14, length := 90 }))
      (fun t => t.res.w0 == 0x6719A088) = true := by
  decide +kernel

/-! ## COMP128 -/

/-- V-C2 (RES3 is not written). -/
theorem test_comp128V1_zero :
    nextSat (exec .comp128V1 { State.reset with res := { Quad.zero with w3 := 5 } })
      (fun t => t.res == { w0 := 0x09E55DA4, w1 := 0x17475778, w2 := 0x3DC40400, w3 := 5 }) = true := by
  decide +kernel

/-- R290: RES3 stays and the command completes; RES0 to RES2 are free values (R297). -/
theorem test_comp128V2_completes :
    nextSat (exec .comp128V2 { State.reset with res := { Quad.zero with w3 := 5 } })
      (fun t => t.res.w3 == 5 && t.status.word == 0x00000002) = true := by
  decide +kernel

/-- R290, as for COMP128.V2. -/
theorem test_comp128V3_completes :
    nextSat (exec .comp128V3 { State.reset with res := { Quad.zero with w3 := 5 } })
      (fun t => t.res.w3 == 5 && t.status.word == 0x00000002) = true := by
  decide +kernel

/-! ## Keccak -/

/-- V-P1. -/
theorem test_keccakP1600_zero :
    nextSat (exec .keccakP1600 { State.reset with mem := cellsFrom 0x0100 (List.replicate 200 0) })
      (fun t => readBytes t 0x0100 16 ==
          [0xE7, 0xDD, 0xE1, 0x40, 0x79, 0x8F, 0x25, 0xF1,
           0x8A, 0x47, 0xC0, 0x33, 0xF9, 0xCC, 0xD5, 0x84] &&
        readBytes t 0x01C0 8 == [0x49, 0xA2, 0xEC, 0x5C, 0x7B, 0xFF, 0xF1, 0xEA]) = true := by
  decide +kernel

/-- The order of lanes inside STATE (R328) and bytes inside a lane (20_memory.md R90). -/
theorem test_stateLanes :
    (stateLanes { State.reset with mem := cellsFrom 0x0100 (0x01 :: 0x02 :: List.replicate 198 0) }).getD
      0 0 = 0x0201 := by
  decide +kernel

/-! ## Witnesses: for every obligation with hypotheses, states and operands that meet them all together,
at the ends of the ranges its clauses name -/

/-- The operands of the six mode commands at their largest values (60_exceptions.md R362). -/
def edge : State :=
  { wide with bearer := 31, direction := 1, length := 491520, nwords := 15360 }

theorem witness_DecodeOfEncodeIsIdentity :
    Instr.kasumiF8.wellFormed = true ∧ (Instr.zucInit 0).wellFormed = true ∧
    (Instr.ctxClear 15).wellFormed = true := by decide

theorem witness_EncodeOfDecodeIsIdentity :
    decode 0x00000041 = .ok .keccakP1600 ∧ decode 0x00000FF0 = .ok (.ctxClear 15) := by decide

theorem witness_IllegalWordsAreRefused :
    (launched 0x000000FF State.reset).status.busy = true ∧
    Claims.Illegal 0x000000FF ∧ Claims.Illegal 0x80000001 ∧ Claims.Illegal 0x00000100 ∧
    ¬ Claims.Illegal 0x00000F01 := by
  refine ⟨rfl, ?_⟩
  decide

theorem witness_StepRunsTheDecodedCommand :
    ((launched 0x000000F0 State.reset).status.busy = true ∧
      decode (launched 0x000000F0 State.reset).cmd = .ok (.ctxClear 0) ∧
      (launched 0x000000F0 State.reset).bus = []) ∧
    (setBus (launched 0x000000F0 State.reset) [.engine, .reset]).bus = [.engine, .reset] ∧
    (State.reset.status.busy = false ∧ State.reset.bus = []) ∧
    (setBus State.reset [.engine]).bus = [.engine] :=
  ⟨⟨rfl, rfl, rfl⟩, rfl, ⟨rfl, rfl⟩, rfl⟩

/-- Each code of Check, on operands next to the bound it checks. -/
theorem witness_ChecksInOrder :
    Claims.check 0x00001000 wide = .illegal ∧
    Claims.check 0x00000101 State.reset = .param ∧
    Claims.check 0x00000024 { edge with bearer := 32 } = .param ∧
    Claims.check 0x00000014 { edge with direction := 2 } = .param ∧
    Claims.check 0x00000004 { edge with length := 491521 } = .length ∧
    Claims.check 0x00000F22 { edge with nwords := 15361 } = .length ∧
    Claims.check 0x00000012 State.reset = .noctx ∧
    Claims.check 0x00000024 edge = .none ∧ Claims.check 0x00000F22 edge = .none ∧
    (launched 0x00000024 edge).status.busy = true := by
  decide +kernel

theorem witness_ErrorsWriteStatusOnly :
    (launched 0x00000002 State.reset).status.busy = true ∧
    Claims.check 0x00000002 (launched 0x00000002 State.reset) ≠ .none ∧
    nextSat (engineTurn (launched 0x00000002 State.reset)) (fun _ => true) = true := by
  decide +kernel

theorem witness_NopOnlyCompletes :
    (∃ t, exec .nop State.reset = .next t) ∧
    (∃ t, exec .nop (acceptCommand State.reset 0x00000000) = .next t) ∧
    (Claims.op 0x00000100 = 0 ∧ Claims.ctx 0x00000100 ≠ 0) ∧
    (Claims.op 0x80000000 = 0 ∧ Claims.rsv 0x80000000 ≠ 0) :=
  ⟨exists_exec _ _, exists_exec _ _, by decide, by decide⟩

/-- The hypotheses of CtxClearResult, KasumiKsResult, Snow3gInitResult and ZucInitResult. -/
theorem witness_slot_in_range :
    (0 < State.reset.params.nCtx ∧ State.reset.ctx.length = State.reset.params.nCtx) ∧
    (15 < edge.params.nCtx ∧ edge.ctx.length = edge.params.nCtx) ∧
    edge.nwords.toNat ≤ edge.params.dbufBytes / 4 ∧ (0 : Nat) ≠ 15 := by
  decide +kernel

theorem witness_KasumiEncResult :
    15 < edge.params.nCtx ∧ (edge.slot 15).kas.valid = true := by
  decide +kernel

/-- The hypothesis of KasumiF8Result, Snow3gUea2Result, ZucEea3Result and ZucEia3Result. -/
theorem witness_frameOk : Claims.frameOk State.reset ∧ Claims.frameOk edge := by
  refine ⟨⟨?_, ?_, ?_⟩, ?_, ?_, ?_⟩ <;> decide +kernel

/-- The hypothesis of KasumiF9Result and Snow3gUia2Result. -/
theorem witness_freshOk :
    Claims.freshOk State.reset ∧ Claims.freshOk { edge with bearer := 0xFFFFFFFF } := by
  refine ⟨⟨?_, ?_⟩, ?_, ?_⟩ <;> decide +kernel

theorem witness_F8KeystreamRecurrence : (0 < 1 ∧ 1 ≤ 2) ∧ (1 < 2 ∧ 2 ≤ 2) := by decide

theorem witness_KasumiKeyWordsFromRegisters : (1 ≤ 1 ∧ 1 ≤ 8) ∧ (1 ≤ 8 ∧ 8 ≤ 8) := by decide

/-- The positions of the last bit of each field of a one-bit message's string. -/
theorem witness_F9StringFillsBlocks : 31 < 32 ∧ 0 < [true].length ∧ 66 + [true].length ≤ 67 := by
  decide

/-- The hypotheses of Snow3gGenksResult and Snow3gStreamingLaw. -/
theorem witness_snow_genks :
    15 < edge.params.nCtx ∧ edge.ctx.length = edge.params.nCtx ∧
    edge.nwords.toNat ≤ edge.params.dbufBytes / 4 ∧ (edge.slot 15).snow.valid = true ∧
    (0 : Word).toNat ≤ edge.params.dbufBytes / 4 ∧
    (15360 : Word).toNat ≤ edge.params.dbufBytes / 4 := by
  decide +kernel

/-- The hypotheses of ZucGenksResult and ZucStreamingLaw. -/
theorem witness_zuc_genks :
    15 < edge.params.nCtx ∧ edge.ctx.length = edge.params.nCtx ∧
    edge.nwords.toNat ≤ edge.params.dbufBytes / 4 ∧ (edge.slot 15).zuc.valid = true ∧
    (0 : Word).toNat ≤ edge.params.dbufBytes / 4 ∧
    (15360 : Word).toNat ≤ edge.params.dbufBytes / 4 := by
  decide +kernel

theorem witness_EmptyMessageMacs :
    ({ edge with length := 0 } : State).direction.toNat ≤ 1 ∧
    ({ edge with length := 0 } : State).length = 0 ∧
    ({ edge with length := 0 } : State).bearer.toNat ≤ 31 := by
  decide +kernel

/-- Cells in range, the generator of R253 and one whose cells all stand for zero. -/
theorem witness_ZucFieldArithmetic :
    zucR253.lfsr.nonzero = true ∧
    (Claims.lfsr (fun _ => (0x7FFFFFFF : BitVec 31))).nonzero = true ∧ 30 ≤ 30 := by decide

/-- The hypotheses of the clauses of Comp128V1Result: the outermost pair, the last permuted entry. -/
theorem witness_Comp128V1Result :
    (List.replicate 32 255).length = 32 ∧ (0 < 31 ∧ 31 < 32) ∧ 15 < 16 ∧
    (List.replicate 16 255).length = 16 := by decide

theorem witness_Comp128V1KcEndsInZeros : ∃ t, exec .comp128V1 State.reset = .next t :=
  exists_exec _ _

theorem witness_KeccakResult :
    (4 < 5 ∧ 7 < 8) ∧ (0x00FF < 0x0100) ∧ 0x01C8 ≤ 0x01C8 := by decide

/-- The index bounds of KeccakStepsByLane and KeccakConstantsFromTheirRules. -/
theorem witness_keccak_indexes : (0 < 5 ∧ 4 < 5) ∧ 23 < 24 ∧ 63 < 64 := by decide

/-- The hypothesis `exec i s = .next t` of CommandsKeepOperandRegisters, CommandsWriteTheirResultsOnly,
OnlyKeccakWritesStateBuffer and CommandsKeepOtherSlots, with each side condition. -/
theorem witness_command_frames :
    (∃ t, exec (.kasumiEnc 0) loaded = .next t) ∧ (∃ t, exec .kasumiF9 edge = .next t) ∧
    (Instr.kasumiF9 ∉ [Instr.comp128V1, .comp128V2, .comp128V3] ∧
      Instr.nop ∉ [Instr.kasumiF9, .snow3gUia2, .zucEia3] ∧ Instr.kasumiF9 ≠ .keccakP1600 ∧
      Instr.kasumiF9.slot? = none ∧ (Instr.zucGenks 15).slot? = some 15 ∧ (0 : Nat) ≠ 15) ∧
    ∀ c, Instr.nop ≠ .kasumiEnc c :=
  ⟨exists_exec _ _, exists_exec _ _, by decide, fun _ h => by cases h⟩

/-- A nine-bit message. -/
def nineBits : State := withDbuf [0xAB, 0x80, 0x11] { keyed with length := 9 }

/-- Other bytes past the message, other unspecified bytes. -/
def nineBits' : State :=
  { nineBits with mem := [(0x1000, 0xAB), (0x1001, 0x80), (0x1002, 0x99)], draw := 7 }

/-- The message bits alone the same. -/
def nineBits'' : State :=
  { nineBits with mem := [(0x1000, 0xAB), (0x1001, 0xFF), (0x1002, 0x99)], draw := 7 }

theorem witness_CommandsStayInDbufBounds :
    ((∃ t, exec .kasumiF8 nineBits = .next t) ∧ 0x1000 ≤ 0x1002 ∧
      0x1000 + ceilDiv nineBits.length.toNat 8 ≤ 0x1002 ∧
      (∀ c, Instr.kasumiF8 = .snow3gGenks c ∨ Instr.kasumiF8 = .zucGenks c →
        0x1000 + 4 * nineBits.nwords.toNat ≤ 0x1002)) ∧
    ((∃ t, exec (.zucGenks 15) edge = .next t) ∧
      0x1000 + 4 * edge.nwords.toNat ≤ 0x1000 + 61440 ∧
      Instr.zucGenks 15 ∉ [Instr.kasumiF8, .snow3gUea2, .zucEea3]) ∧
    nineBits.length.toNat ≤ 9 ∧
    (∃ t, exec .kasumiF8 nineBits' = .next t) ∧
    (∀ a, 0x1000 ≤ a → a < 0x1000 + ceilDiv nineBits.length.toNat 8 →
      readByte nineBits' a = readByte nineBits a) := by
  refine ⟨⟨exists_exec _ _, by decide, by decide, fun c h => by rcases h with h | h <;> cases h⟩,
    ⟨exists_exec _ _, by decide +kernel, by decide⟩, by decide, exists_exec _ _, fun a h1 h2 => ?_⟩
  have h3 : ceilDiv nineBits.length.toNat 8 = 2 := by decide
  rw [h3] at h2
  obtain rfl | rfl : a = 0x1000 ∨ a = 0x1001 := by omega
  · rfl
  · rfl

theorem witness_MacsIgnoreBitsPastLength :
    (∀ j, j < nineBits.length.toNat → msgBit nineBits'' j = msgBit nineBits j) ∧
    msgBit nineBits'' 9 ≠ msgBit nineBits 9 ∧
    (∃ t, exec .zucEia3 nineBits = .next t) ∧ ∃ t, exec .zucEia3 nineBits'' = .next t :=
  ⟨by decide +kernel, by decide +kernel, exists_exec _ _, exists_exec _ _⟩

theorem witness_ConfidentialityTwiceRestores :
    Instr.zucEea3 ∈ [Instr.kasumiF8, .snow3gUea2, .zucEea3] ∧ Claims.frameOk edge :=
  ⟨by decide, witness_frameOk.2⟩

/-- Each way to be a bus error; the accesses allowed while busy; a run stopped by a recorded error. -/
theorem witness_BadAccessesAreBusErrors :
    (setBus State.reset [asmRd .id]).bus = asmRd .id :: [] ∧
    (setBus State.reset [asmRd .id]).faults = [] ∧
    (busError { kind := .read8, offset := 0, value := 0 } State.reset).faults ≠ [] ∧
    (accessTarget { kind := .write16, offset := 0x0004, value := 0 } State.reset = none) ∧
    (accessTarget { kind := .read32, offset := 0x0006, value := 0 } State.reset = none) ∧
    (accessTarget { kind := .read32, offset := 0xFFFC, value := 0 } State.reset = none) ∧
    (accessTarget { kind := .read32, offset := 0x0004, value := 0 } (launched 0 State.reset) = none) ∧
    (accessTarget { kind := .write32, offset := 0x000C, value := 0 } (launched 0 State.reset) =
      some .irqen) := by
  decide +kernel

theorem witness_UnmappedOffsets :
    defaultParams.legal = true ∧ wideParams.legal = true ∧
    Reg.ofOffset wideParams 0x002C = none ∧ Reg.ofOffset wideParams 0x00FC = none ∧
    Reg.ofOffset wideParams 0x01C8 = none ∧ Reg.ofOffset wideParams 0x0FFC = none ∧
    Reg.ofOffset wideParams 0xFFFC = some (.dbuf 15359) ∧
    Reg.ofOffset defaultParams 0x3000 = none ∧
    Reg.ofOffset defaultParams 0x0060 = none ∧ Reg.ofOffset defaultParams 0x01C4 = some (.state 49) := by
  decide +kernel

theorem witness_CommandAcceptance :
    ((setBus State.reset [asmWr .cmd 0xFF]).bus = asmWr .cmd 0xFF :: [] ∧
      (setBus State.reset [asmWr .cmd 0xFF]).faults = [] ∧
      (setBus State.reset [asmWr .cmd 0xFF]).status.busy = false ∧ Claims.Illegal 0xFF) ∧
    (launched 0 State.reset).status.busy = true :=
  ⟨⟨rfl, rfl, rfl, by decide⟩, rfl⟩

/-- The hypotheses of StatusFieldsAndAcknowledge, ReadOnlyRegisters and InterruptIsALevel. -/
theorem witness_register_accesses :
    ((setBus State.reset [asmWr .status 6]).bus = asmWr .status 6 :: [] ∧
      (setBus State.reset [asmRd .status]).bus = asmRd .status :: [] ∧
      (setBus State.reset [asmWr (.res 3) 1]).bus = asmWr (.res 3) 1 :: [] ∧
      (setBus State.reset [asmRd .id]).bus = asmRd .id :: [] ∧
      (setBus State.reset [asmRd .cfg]).bus = asmRd .cfg :: [] ∧
      (setBus State.reset [asmRd .cmd]).bus = asmRd .cmd :: [] ∧
      (setBus State.reset [asmRd (.res 0)]).bus = asmRd (.res 0) :: [] ∧
      (setBus State.reset [asmRd (.res 3)]).bus = asmRd (.res 3) :: [] ∧
      (setBus State.reset [asmWr .irqen 1, asmRd .irqen]).bus =
        asmWr .irqen 1 :: asmRd .irqen :: []) ∧
    State.reset.faults = [] ∧ State.reset.status.busy = false ∧ State.reset.params.legal = true ∧
    Reg.res 3 ∈ [Reg.id, .cfg, .res 0, .res 1, .res 2, .res 3] := by
  decide +kernel

/-- Each register of the clauses. -/
theorem witness_OperandRegistersHoldWhatIsWritten :
    ∀ r ∈ [Reg.length, .count, .bearer, .direction, .fresh, .nwords, .iv 0, .iv 3, .key 0, .key 3],
      (setBus State.reset [asmWr r 1, asmRd r]).bus = asmWr r 1 :: asmRd r :: [] ∧
      (setBus State.reset [asmWr r 1, asmRd r]).faults = [] ∧
      (setBus State.reset [asmWr r 1, asmRd r]).status.busy = false :=
  fun _ _ => ⟨rfl, rfl, rfl⟩

/-- The last word of DBUF at its largest, and of STATE. -/
theorem witness_BufferWordsAreBigEndian :
    wide.params.legal = true ∧ 4 * 15359 < wide.params.dbufBytes ∧ 49 < 50 ∧
    (setBus wide [asmWr (.dbuf 15359) 1, asmRd (.dbuf 15359)]).bus =
      asmWr (.dbuf 15359) 1 :: asmRd (.dbuf 15359) :: [] ∧
    (setBus wide [asmWr (.state 49) 1, asmRd (.state 49)]).bus =
      asmWr (.state 49) 1 :: asmRd (.state 49) :: [] ∧
    wide.faults = [] ∧ wide.status.busy = false := by
  decide +kernel

theorem witness_ReadsHaveNoSideEffect :
    nextSat (step (setBus State.reset [asmRd .cmd, asmRd .cmd]))
      (fun t => t.resp != .busError && nextSat (step t) (fun _ => true)) = true := by
  decide +kernel

theorem witness_BusyAccessesKeepOperands :
    (setBus (launched 0 State.reset) [asmWr .irqen 1]).bus = asmWr .irqen 1 :: [] ∧
    (setBus (launched 0 State.reset) [asmWr .irqen 1]).status.busy = true ∧
    nextSat (step (setBus (launched 0 State.reset) [asmWr .irqen 1])) (fun t => t.doneie) = true := by
  decide +kernel

/-- RES `k` as an owed result. -/
def owedRes (k : Nat) : Stretch := { lo := 0x0050 + 4 * k, hi := 0x0054 + 4 * k }

/-- Host 0 has launched and not read BUSY = 0; `busy` says whether the engine step is still owed. -/
def waiting (busy : Bool) (ms : List Move) : Hosted :=
  { block := if busy then launched 0 State.reset else State.reset
    seq := some { host := 0, phase := .launched, owed := [owedRes 0] }
    moves := ms }

/-- Host 0 has read BUSY = 0 and owes the read of RES0. -/
def collecting (ms : List Move) : Hosted :=
  { block := State.reset, seq := some { host := 0, phase := .collecting, owed := [owedRes 0] }, moves := ms }

/-- A read of STATUS, a write of LENGTH, launches of KASUMI.F9, KASUMI.ENC and NOP. -/
def poll : Access := { kind := .read32, offset := 0x0008, value := 0 }
def writeLength : Access := { kind := .write32, offset := 0x0010, value := 5 }
def launchF9 : Access := { kind := .write32, offset := 0x0004, value := 0x00000004 }
def launchEnc : Access := { kind := .write32, offset := 0x0004, value := 0x00000002 }
def launchNop : Access := { kind := .write32, offset := 0x0004, value := 0x00000000 }

/-- The hosts' clauses: consistent states with and without a command in flight, each way to break a duty (a
foreign host, before BUSY = 0 is read, a launch over an owed result), a launch that passes Check and one
that fails it. -/
theorem witness_hosts :
    (waiting true []).consistent = true ∧ (waiting false []).consistent = true ∧
    (collecting []).consistent = true ∧
    (waiting true [.access 0 poll []]).block.faults = [] ∧
    poll.kind = .read32 ∧ poll.offset ∈ [(0x0000 : BitVec 16), 0x0008, 0x0028, 0x000C] ∧
    ¬ (writeLength.kind = .read32 ∧
        writeLength.offset ∈ [(0x0000 : BitVec 16), 0x0008, 0x0028, 0x000C]) ∧
    ¬ (writeLength.kind = .write32 ∧ writeLength.offset = 0x000C) ∧
    ¬ (launchF9.kind = .write32 ∧ launchF9.offset = 0x000C) ∧
    overwrites launchF9.value State.reset (owedRes 0) = true ∧
    Claims.check launchF9.value State.reset = .none ∧ Claims.resCount launchF9.value = 1 ∧
    Claims.check 0x00000033 State.reset = .none ∧ Claims.resCount 0x00000033 = 3 ∧
    Claims.check launchEnc.value State.reset = .noctx ∧ Claims.resCount launchEnc.value = 2 ∧
    overwrites launchNop.value State.reset (owedRes 0) = false ∧
    Reg.ofOffset State.reset.params writeLength.offset.toNat ≠ none := by
  decide +kernel

/-- The outcome of a step of block and hosts: a next state with property `p`. -/
def hostedSat (o : Host.Outcome Hosted Fault Refusal) (p : Hosted → Bool) : Bool :=
  match o with
  | .next h => p h
  | .fault _ => false
  | .refused _ => false

/-- R376, rows "launch" and "complete": a write of LENGTH after the engine step, BUSY = 0 not yet read, is
no move; the poll is one, and with a result owed it opens collecting. -/
theorem test_hosts_wait_for_completion :
    hostedSat (hostedStep (waiting false [.access 0 writeLength []])) (fun _ => true) = false ∧
    hostedSat (hostedStep (waiting false [.access 0 poll []])) (fun h => h.seq ==
      some { host := 0, phase := .collecting, owed := [owedRes 0] }) = true := by
  decide +kernel

/-- R376, rows "collect" and "share", R405: a launch of KASUMI.F9 over the unread RES0 is no move, a launch
that leaves RES is one; another host's launch is none; the read of RES0 ends the sequence. -/
theorem test_hosts_collect_and_share :
    hostedSat (hostedStep (collecting [.access 0 launchF9 []])) (fun _ => true) = false ∧
    hostedSat (hostedStep (collecting [.access 0 launchNop []])) (fun _ => true) = true ∧
    hostedSat (hostedStep (collecting [.access 1 launchNop []])) (fun _ => true) = false ∧
    hostedSat (hostedStep (collecting
      [.access 0 { kind := .read32, offset := 0x0050, value := 0 } []])) (fun h => h.seq == none) =
      true := by
  decide +kernel

/-- R405: KASUMI.F9 owes RES0 though its host names nothing. R365: KASUMI.ENC without a record owes nothing
though its host names RES0, and may be launched over an owed RES0. -/
theorem test_hosts_owe_what_is_written :
    hostedSat (hostedStep { block := State.reset, seq := none, moves := [.access 0 launchF9 []] })
      (fun h => h.seq == some { host := 0, phase := .launched, owed := [owedRes 0] }) = true ∧
    hostedSat (hostedStep { block := State.reset, seq := none, moves := [.access 0 launchEnc [0x0050]] })
      (fun h => h.seq == some { host := 0, phase := .launched, owed := [] }) = true ∧
    hostedSat (hostedStep (collecting [.access 0 launchEnc []])) (fun _ => true) = true := by
  decide +kernel

/-- A stretch of DBUF is collected by a read of one word (programs P3 and P4); a host's own write over it
leaves the rest owed. -/
theorem test_hosts_buffer_results :
    (Sequence.afterRead { host := 0, phase := .collecting, owed := [dbufStretch 25] } 0x1018 false) = none ∧
    (Sequence.afterRead { host := 0, phase := .collecting, owed := [dbufStretch 25] } 0x101C false) =
      some { host := 0, phase := .collecting, owed := [dbufStretch 25] } ∧
    Stretch.without 0x1000 (dbufStretch 25) = [{ lo := 0x1004, hi := 0x1019 }] ∧
    Stretch.without 0x1018 (dbufStretch 25) = [{ lo := 0x1000, hi := 0x1018 }] := by
  decide

/-- Two states with different keys and records, before a read of KEY. -/
theorem witness_HostLearnsNoSecret :
    (setBus loaded [asmRd (.key 0)]).bus = asmRd (.key 0) :: [] ∧
    nextSat (step (setBus loaded [asmRd (.key 0)])) (fun t => t.resp == .data 0) = true ∧
    nextSat (step { setBus loaded [asmRd (.key 0)] with key := set1, ctx := [Ctx.clear] })
      (fun t => t.resp == .data 0) = true := by
  decide +kernel

theorem witness_StateAfterReset : defaultParams.legal = true ∧ wideParams.legal = true := by
  decide +kernel

theorem witness_ResetEventDestroysContexts :
    (setBus wide [.reset]).bus = .reset :: [] ∧ 15 < (setBus wide [.reset]).params.nCtx := by
  decide +kernel

theorem loaded_inv : loaded.Inv where
  params := by decide +kernel
  status := rfl
  memWf := rfl
  memIn := fun x h => by cases h
  slots := rfl
  zuc := by decide +kernel

theorem witness_StepKeepsInvariant : loaded.Inv ∧ ∃ t, step loaded = .next t :=
  ⟨loaded_inv, _, rfl⟩

end Sys2Proof.Tests
end

section
/-! SUPPORT. What a command's own effect writes: the fields it can reach at all, the RES registers, the
bytes of STATE or DBUF it stores, the context slot it leaves. -/

namespace Sys2Proof.Machine

/-! ## Storing bytes -/

/-- Storing bytes changes memory alone. -/
theorem writeBytes_eq_with_mem (s : State) (a : Nat) (bs : List Byte) :
    writeBytes s a bs = { s with mem := (writeBytes s a bs).mem } := by
  induction bs generalizing s a with
  | nil => rfl
  | cons b bs ih => exact ih (writeByte s a b) (a + 1)

theorem applyKeystream_eq_with_mem (s : State) (ks : List Byte) :
    applyKeystream s ks = { s with mem := (applyKeystream s ks).mem } :=
  writeBytes_eq_with_mem s _ _

theorem storeKeystream_eq_with_mem (s : State) (zs : List Word) :
    storeKeystream s zs = { s with mem := (storeKeystream s zs).mem } :=
  writeBytes_eq_with_mem s _ _

@[simp] theorem storeKeystream_slot (s : State) (zs : List Word) (c : Nat) :
    (storeKeystream s zs).slot c = s.slot c := by
  simp [State.slot]

/-! ## The fields a command can reach -/

/-- A command's own effect reaches the results, the buffers and the context slots only
(30_encoding.md R117). -/
theorem performOf_eq_with (i : Instr) (s : State) :
    performOf i s = { s with
      res := (performOf i s).res, mem := (performOf i s).mem, ctx := (performOf i s).ctx } := by
  have hmem (u : State) (hu : u = { s with mem := u.mem }) :
      u = { s with res := u.res, mem := u.mem, ctx := u.ctx } := by
    rw [hu]
  have hslot (u : State) (c : Nat) (x : Ctx) (hu : u = { s with mem := u.mem }) :
      setSlot u c x = { s with
        res := (setSlot u c x).res, mem := (setSlot u c x).mem, ctx := (setSlot u c x).ctx } := by
    rw [hu]; rfl
  cases i
  case kasumiF8 | snow3gUea2 | zucEea3 => exact hmem _ (applyKeystream_eq_with_mem s _)
  case keccakP1600 => exact hmem _ (writeBytes_eq_with_mem s _ _)
  case snow3gGenks | zucGenks => exact hslot _ _ _ (storeKeystream_eq_with_mem s _)
  all_goals rfl

/-- Everything the engine step of a decoded command can do. -/
theorem exec_cases {i : Instr} {s t : State} (h : exec i s = .next t) :
    (check i s = .none ∧ t = complete (performOf i s)) ∨
    (check i s ≠ .none ∧ t = raiseError (check i s) s) :=
  engineStep_cases (exec_eq i s ▸ h)

/-- An engine step reaches STATUS, the results, the buffers and the context slots only. -/
theorem exec_eq_with {i : Instr} {s t : State} (h : exec i s = .next t) :
    t = { s with status := t.status, res := t.res, mem := t.mem, ctx := t.ctx } := by
  obtain ⟨-, rfl⟩ | ⟨-, rfl⟩ := exec_cases h
  · rw [performOf_eq_with]; rfl
  · rfl

/-- What a command's own effect keeps, and STATUS does not enter, the engine step keeps. -/
theorem exec_keeps {α : Type} (f : State → α) {i : Instr} {s t : State} (h : exec i s = .next t)
    (hstatus : ∀ (u : State) (st : Status), f { u with status := st } = f u)
    (hperform : f (performOf i s) = f s) : f t = f s := by
  obtain ⟨-, rfl⟩ | ⟨-, rfl⟩ := exec_cases h
  · exact (hstatus _ _).trans hperform
  · exact hstatus _ _

/-! ## Results (10_state.md R44) -/

/-- Which RES registers a command's own effect can write. -/
theorem performOf_res_cases (i : Instr) (s : State) :
    (performOf i s).res = s.res ∨
    (i ∈ [Instr.kasumiF9, .snow3gUia2, .zucEia3] ∧
      ∃ v, (performOf i s).res = { s.res with w0 := v }) ∨
    ((∃ c, i = .kasumiEnc c) ∧ ∃ v w, (performOf i s).res = { s.res with w0 := v, w1 := w }) ∨
    (i ∈ [Instr.comp128V1, .comp128V2, .comp128V3] ∧
      ∃ v w x, (performOf i s).res = { s.res with w0 := v, w1 := w, w2 := x }) := by
  cases i
  case kasumiF9 | snow3gUia2 | zucEia3 => exact .inr (.inl ⟨by simp, _, rfl⟩)
  case kasumiEnc c => exact .inr (.inr (.inl ⟨⟨c, rfl⟩, _, _, rfl⟩))
  case comp128V1 | comp128V2 | comp128V3 => exact .inr (.inr (.inr ⟨by simp, _, _, _, rfl⟩))
  case kasumiF8 | snow3gUea2 | zucEea3 => exact .inl (applyKeystream_res s _)
  case snow3gGenks | zucGenks => exact .inl (storeKeystream_res s _)
  case keccakP1600 => exact .inl (writeBytes_res s _ _)
  all_goals exact .inl rfl

/-! ## The bytes a command stores (20_memory.md R88) -/

/-- Where a command stores bytes: KECCAK.P1600 in STATE, the others in DBUF. -/
def storeBase : Instr → Nat
  | .keccakP1600 => stateBase
  | _ => dbufBase

/-- The bytes a command stores from there up. -/
def storedBytes (i : Instr) (s : State) : List Byte :=
  match i with
  | .kasumiF8 => applyBytes (opLength s) (messageBytes s) (kasumiF8Bytes s)
  | .snow3gUea2 => applyBytes (opLength s) (messageBytes s) (snow3gUea2Bytes s)
  | .zucEea3 => applyBytes (opLength s) (messageBytes s) (zucEea3Bytes s)
  | .snow3gGenks c => (snowWords (opNwords s) (s.slot c).snow.gen).flatMap wordBytes
  | .zucGenks c => (zucWords (opNwords s) (s.slot c).zuc.gen).flatMap wordBytes
  | .keccakP1600 => (keccakP1600 (stateLanes s)).flatMap laneBytes
  | _ => []

theorem performOf_mem (i : Instr) (s : State) :
    (performOf i s).mem = (writeBytes s (storeBase i) (storedBytes i s)).mem := by
  cases i <;> rfl

theorem storeBase_of_ne_keccakP1600 {i : Instr} (h : i ≠ .keccakP1600) : storeBase i = dbufBase := by
  cases i
  case keccakP1600 => exact absurd rfl h
  all_goals rfl

/-- After a command a byte reads as if the command had stored its bytes and done nothing else. -/
theorem readByte_performOf (i : Instr) (s : State) (a : Nat) :
    readByte (performOf i s) a = readByte (writeBytes s (storeBase i) (storedBytes i s)) a := by
  refine readByte_congr (performOf_mem i s) ?_ a
  rw [performOf_eq_with, writeBytes_draw]

/-- Below DBUF only KECCAK.P1600 stores bytes. -/
theorem readByte_performOf_of_lt_dbufBase {i : Instr} (hi : i ≠ .keccakP1600) (s : State) {a : Nat}
    (ha : a < dbufBase) : readByte (performOf i s) a = readByte s a := by
  rw [readByte_performOf, storeBase_of_ne_keccakP1600 hi,
    readByte_writeBytes_of_out _ _ _ _ (.inl ha)]

theorem length_applyBytes_le (n : Nat) (bs ks : List Byte) :
    (applyBytes n bs ks).length ≤ bs.length := by
  induction bs generalizing n ks with
  | nil => simp [applyBytes]
  | cons b bs ih =>
    cases ks with
    | nil => simp [applyBytes]
    | cons k ks => simpa [applyBytes] using ih (n - 8) ks

@[simp] theorem snowWords_length (n : Nat) (g : SnowGen) : (snowWords n g).length = n := by
  induction n generalizing g with
  | zero => rfl
  | succ n ih => simp [snowWords, ih]

@[simp] theorem zucWords_length (n : Nat) (g : ZucGen) : (zucWords n g).length = n := by
  induction n generalizing g with
  | zero => rfl
  | succ n ih => simp [zucWords, ih]

@[simp] theorem length_flatMap_wordBytes (zs : List Word) :
    (zs.flatMap wordBytes).length = 4 * zs.length := by
  simp [List.length_flatMap, Nat.mul_comm]

@[simp] theorem laneBytes_length (v : DWord) : (laneBytes v).length = 8 := by
  simp [laneBytes]

@[simp] theorem keccakRound_length (a : List DWord) (rc : DWord) :
    (keccakRound a rc).length = 25 := by
  simp [keccakRound, keccakIota, lanes]

@[simp] theorem keccakP1600_length (a : List DWord) : (keccakP1600 a).length = 25 := by
  have hsplit : keccakRC = keccakRC.dropLast ++ [0x8000000080008008] := by decide
  rw [keccakP1600, hsplit, List.foldl_concat, keccakRound_length]

/-- KECCAK.P1600 stores all of STATE. -/
theorem storedBytes_keccakP1600_length (s : State) : (storedBytes .keccakP1600 s).length = 200 := by
  simp [storedBytes, List.length_flatMap]

/-- A command that Check lets through stores no byte past the end of DBUF. -/
theorem storedBytes_length_le {i : Instr} {s : State} (hc : check i s = .none)
    (hi : i ≠ .keccakP1600) : (storedBytes i s).length ≤ s.params.dbufBytes := by
  obtain ⟨-, -, -, hlen, hwords, -⟩ := (check_eq_none_iff i s).mp hc
  have hmessage (ks : List Byte) (h : opLength s ≤ 8 * s.params.dbufBytes) :
      (applyBytes (opLength s) (messageBytes s) ks).length ≤ s.params.dbufBytes := by
    have := length_applyBytes_le (opLength s) (messageBytes s) ks
    rw [messageBytes_length, ceilDiv] at this
    omega
  have hstream (zs : List Word) (hz : zs.length = opNwords s)
      (h : opNwords s ≤ s.params.dbufBytes / 4) :
      (zs.flatMap wordBytes).length ≤ s.params.dbufBytes := by
    rw [length_flatMap_wordBytes]; omega
  cases i
  case kasumiF8 | snow3gUea2 | zucEea3 => exact hmessage _ (hlen rfl)
  case snow3gGenks => exact hstream _ (snowWords_length _ _) (hwords rfl)
  case zucGenks => exact hstream _ (zucWords_length _ _) (hwords rfl)
  case keccakP1600 => exact absurd rfl hi
  all_goals exact Nat.zero_le _

/-! ## The slot a command leaves (10_state.md R50 to R53) -/

/-- What a command with slot `c` leaves in that slot. -/
def slotAfter (i : Instr) (s : State) (c : Nat) : Ctx :=
  match i with
  | .kasumiKs _ => { s.slot c with kas := { valid := true, keys := keySchedule s.key.bits } }
  | .snow3gInit _ => { s.slot c with snow := { valid := true, gen := snowInit s.key s.iv } }
  | .snow3gGenks _ =>
    { s.slot c with
      snow := { (s.slot c).snow with gen := snowAfter (opNwords s) (s.slot c).snow.gen } }
  | .zucInit _ =>
    { s.slot c with zuc := { valid := true, gen := zucInit s.key.bytes s.iv.bytes } }
  | .zucGenks _ =>
    { s.slot c with zuc := { (s.slot c).zuc with gen := zucAfter (opNwords s) (s.slot c).zuc.gen } }
  | .ctxClear _ => .clear
  | _ => s.slot c

/-- Putting a slot back changes nothing, also past the end of the list. -/
theorem ctx_set_slot_self (s : State) (c : Nat) : s.ctx.set c (s.slot c) = s.ctx := by
  by_cases hc : c < s.ctx.length
  · rw [State.slot, List.getD_eq_getElem _ _ hc, List.set_getElem_self]
  · rw [List.set_eq_of_length_le (by omega)]

theorem performOf_ctx_of_slotless {i : Instr} (h : i.slot? = none) (s : State) :
    (performOf i s).ctx = s.ctx := by
  cases i
  case kasumiF8 | snow3gUea2 | zucEea3 => exact applyKeystream_ctx s _
  case keccakP1600 => exact writeBytes_ctx s _ _
  case kasumiKs | kasumiEnc | snow3gInit | snow3gGenks | zucInit | zucGenks | ctxClear => cases h
  all_goals rfl

theorem performOf_ctx_of_slot {i : Instr} {c : Nat} (h : i.slot? = some c) (s : State) :
    (performOf i s).ctx = s.ctx.set c (slotAfter i s c) := by
  cases i <;> cases h
  case kasumiEnc => exact (ctx_set_slot_self s c).symm
  case snow3gGenks => simp [performOf, performSnow3gGenks, slotAfter]
  case zucGenks => simp [performOf, performZucGenks, slotAfter]
  all_goals rfl

theorem performOf_slot_of_ne {i : Instr} {c d : Nat} (h : i.slot? = some c) (hd : d ≠ c)
    (s : State) : (performOf i s).slot d = s.slot d := by
  rw [State.slot, performOf_ctx_of_slot h, List.getD_eq_getElem?_getD,
    List.getElem?_set_ne (Ne.symm hd), ← List.getD_eq_getElem?_getD, State.slot]

end Sys2Proof.Machine
end

section
/-! SUPPORT. ZUC's cells stay in the range 1 to 2^31 - 1 (42_zuc.md R248, R249). -/

namespace Sys2Proof.Machine

/-- An invariant of `f` holds after any number of applications. -/
theorem iter_keeps {α : Type} {p : α → Prop} {f : α → α} (hf : ∀ x, p x → p (f x)) (n : Nat)
    {x : α} (hx : p x) : p (iter f n x) := by
  induction n with
  | zero => exact hx
  | succ n ih => exact hf _ ih

theorem zucCell_ne_zero {v : Nat} (h : v < zucP) : zucCell v ≠ 0 := by
  have hlt : (if v = 0 then zucP else v) < 2 ^ 31 := by
    unfold zucP at h ⊢; split <;> omega
  intro h0
  have := congrArg BitVec.toNat h0
  rw [zucCell, BitVec.toNat_ofNat, Nat.mod_eq_of_lt hlt] at this
  unfold zucP at this
  split at this <;> simp_all

theorem Lfsr.nonzero_shift {l : Lfsr 31} {v : BitVec 31} (hl : l.nonzero = true) (hv : v ≠ 0) :
    (l.shift v).nonzero = true := by
  simp only [Lfsr.nonzero, List.all_cons, Bool.and_eq_true, bne_iff_ne] at hl ⊢
  simp_all [Lfsr.shift]

theorem clockZucLfsrInit_nonzero (u : Nat) {g : ZucGen} (h : g.lfsr.nonzero = true) :
    (clockZucLfsrInit u g).lfsr.nonzero = true :=
  Lfsr.nonzero_shift h (zucCell_ne_zero (Nat.mod_lt _ (by decide)))

theorem clockZucLfsr_nonzero {g : ZucGen} (h : g.lfsr.nonzero = true) :
    (clockZucLfsr g).lfsr.nonzero = true :=
  Lfsr.nonzero_shift h (zucCell_ne_zero (Nat.mod_lt _ (by decide)))

theorem zucInitClock_nonzero {g : ZucGen} (h : g.lfsr.nonzero = true) :
    (zucInitClock g).lfsr.nonzero = true :=
  clockZucLfsrInit_nonzero _ (g := clockZucF g) h

theorem zucClock_nonzero {g : ZucGen} (h : g.lfsr.nonzero = true) :
    (zucClock g).lfsr.nonzero = true :=
  clockZucLfsr_nonzero (g := clockZucF g) h

/-- A loaded cell holds the constant `d_i` in its middle, and no constant is 0 (R243, R250). -/
theorem zucLoadCell_ne_zero (k iv : List Byte) {i : Nat} (hi : i < 16) :
    zucLoadCell k iv i ≠ 0 := by
  have hd : ∀ i, i < 16 → zucD.getD i 0 ≠ 0 := by decide
  have hmiddle : (zucLoadCell k iv i).extractLsb' 8 15 = zucD.getD i 0 := by
    rw [zucLoadCell, BitVec.extractLsb'_append_eq_of_le (by decide),
      BitVec.extractLsb'_append_eq_of_add_le (by decide)]
    exact BitVec.extractLsb'_eq_self
  intro h0
  exact hd i hi (by rw [← hmiddle, h0]; rfl)

theorem zucLoad_nonzero (k iv : List Byte) : (zucLoad k iv).lfsr.nonzero = true := by
  change ((List.range 16).map (zucLoadCell k iv)).all (fun v => v != 0) = true
  simp only [List.all_map, List.all_eq_true, List.mem_range, Function.comp, bne_iff_ne]
  exact fun i hi => zucLoadCell_ne_zero k iv hi

theorem zucInit_nonzero (k iv : List Byte) : (zucInit k iv).lfsr.nonzero = true :=
  zucClock_nonzero (iter_keeps (p := fun g : ZucGen => g.lfsr.nonzero = true)
    (fun _ => zucInitClock_nonzero) 32 (zucLoad_nonzero k iv))

theorem zucAfter_nonzero (n : Nat) {g : ZucGen} (h : g.lfsr.nonzero = true) :
    (zucAfter n g).lfsr.nonzero = true := by
  induction n generalizing g with
  | zero => exact h
  | succ n ih => exact ih (zucClock_nonzero h)

/-- Drawing keystream words from a record in range leaves it in range. -/
theorem ZucRecord.inRange_zucAfter {r : ZucRecord} (h : r.inRange = true) (n : Nat) :
    ({ r with gen := zucAfter n r.gen } : ZucRecord).inRange = true := by
  unfold ZucRecord.inRange at h ⊢
  cases hv : r.valid with
  | false => rfl
  | true => rw [hv] at h; exact zucAfter_nonzero n h

end Sys2Proof.Machine
end

section
/-! SUPPORT. The window: which register stands at which offset (10_state.md R30, R45 to R47), what the
words of its registers are, and what a host access that reaches a register does in one step. -/

namespace Sys2Proof.Machine

/-! ## Registers and offsets -/

/-- The register is one of the window's: a buffer word must lie inside its buffer. -/
def Reg.mapped (p : Params) : Reg → Prop
  | .state k => k < 50
  | .dbuf k => 4 * k < p.dbufBytes ∧ dbufBase + 4 * k < 65536
  | _ => True

theorem Reg.offset_state {k : Nat} (h : k < 50) :
    (Reg.state k).offset.toNat = stateBase + 4 * k := by
  simp only [Reg.offset, stateBase]; bv_omega

theorem Reg.offset_dbuf {k : Nat} (h : dbufBase + 4 * k < 65536) :
    (Reg.dbuf k).offset.toNat = dbufBase + 4 * k := by
  simp only [Reg.offset, dbufBase] at h ⊢; bv_omega

theorem Reg.offset_aligned {p : Params} {r : Reg} (h : r.mapped p) : r.offset.toNat % 4 = 0 := by
  cases r
  case state k => rw [Reg.offset_state h, stateBase]; omega
  case dbuf k => rw [Reg.offset_dbuf h.2, dbufBase]; omega
  case key i | iv i | res i => fin_cases i <;> rfl
  all_goals rfl

theorem Reg.ofOffset_of_ge {p : Params} {off : Nat} (h : 0x0060 ≤ off) :
    Reg.ofOffset p off = Reg.ofBufferOffset p off := by
  unfold Reg.ofOffset
  split
  case h_24 => rfl
  all_goals omega

/-- A register is found at its own offset. -/
theorem Reg.ofOffset_offset {p : Params} {r : Reg} (h : r.mapped p) :
    Reg.ofOffset p r.offset.toNat = some r := by
  cases r
  case state k =>
    rw [Reg.offset_state h, Reg.ofOffset_of_ge (by simp [stateBase]; omega)]
    have : k < 50 := h
    rw [Reg.ofBufferOffset, if_pos (by omega)]
    congr 2; omega
  case dbuf k =>
    rw [Reg.offset_dbuf h.2, Reg.ofOffset_of_ge (by simp [dbufBase]; omega)]
    have := h.1
    rw [Reg.ofBufferOffset, if_neg (by simp [stateBase, dbufBase]; omega), if_pos (by omega)]
    congr 2; omega
  case key i | iv i | res i => fin_cases i <;> rfl
  all_goals rfl

/-- Only a mapped register is found, and at its own offset. -/
theorem Reg.of_ofOffset_eq_some {p : Params} {off : Nat} {r : Reg} (ha : off % 4 = 0)
    (hoff : off < 65536) (h : Reg.ofOffset p off = some r) : r.mapped p ∧ r.offset.toNat = off := by
  unfold Reg.ofOffset at h
  split at h
  case h_24 =>
    unfold Reg.ofBufferOffset at h
    split at h
    · cases h
      have hk : (off - stateBase) / 4 < 50 := by omega
      exact ⟨hk, by rw [Reg.offset_state hk]; unfold stateBase at *; omega⟩
    split at h
    · cases h
      have hk : dbufBase + 4 * ((off - dbufBase) / 4) = off := by unfold dbufBase at *; omega
      exact ⟨⟨by omega, by omega⟩, by rw [Reg.offset_dbuf (by omega), hk]⟩
    · cases h
  all_goals cases h; exact ⟨trivial, rfl⟩

theorem Reg.ofBufferOffset_eq_none_iff {p : Params} {off : Nat} :
    Reg.ofBufferOffset p off = none ↔
      ¬ (stateBase ≤ off ∧ off < stateBase + 200) ∧
      ¬ (dbufBase ≤ off ∧ off < dbufBase + p.dbufBytes) := by
  unfold Reg.ofBufferOffset
  split
  · simp [*]
  split <;> simp [*]

/-- Below the buffers, 0x002C is the one unmapped offset of the registers' rows. -/
theorem Reg.ofOffset_eq_none_iff {p : Params} {off : Nat} (ha : off % 4 = 0) :
    Reg.ofOffset p off = none ↔
      off = 0x002C ∨ (0x0060 ≤ off ∧ Reg.ofBufferOffset p off = none) := by
  unfold Reg.ofOffset
  split
  case h_24 =>
    rw [Reg.ofBufferOffset_eq_none_iff]
    simp only [stateBase, dbufBase, imp_false] at *
    omega
  all_goals simp

/-! ## The words of ID, CFG and STATUS -/

theorem Params.legal_iff (p : Params) :
    p.legal = true ↔ p.dbufBytes % 8 = 0 ∧ 8 ≤ p.dbufBytes ∧ p.dbufBytes ≤ 61440 ∧
      1 ≤ p.nCtx ∧ p.nCtx ≤ 16 ∧ p.tables.legal = true := by
  simp [Params.legal, and_assoc]

/-- CFG as a number (10_state.md R35). -/
theorem cfgWord_eq_ofNat {p : Params} (h : p.legal = true) :
    cfgWord p = BitVec.ofNat 32 (p.dbufBytes / 8 * 2 ^ 16 + (p.nCtx - 1)) := by
  obtain ⟨-, -, hbuf, hctx, hctx', -⟩ := (Params.legal_iff p).mp h
  apply BitVec.eq_of_toNat_eq
  rw [cfgWord, BitVec.toNat_append, BitVec.toNat_append, ← Nat.shiftLeft_add_eq_or_of_lt (by omega),
    ← Nat.shiftLeft_add_eq_or_of_lt (by omega)]
  simp only [BitVec.toNat_ofNat, Nat.shiftLeft_eq, show (0 : BitVec 12).toNat = 0 from rfl]
  omega

/-- STATUS as a number (10_state.md R33). -/
theorem Status.word_eq_ofNat (st : Status) :
    st.word = BitVec.ofNat 32 (st.busy.toNat + 2 * st.done.toNat + 4 * st.err.toNat +
      16 * st.errcode.code.toNat) := by
  obtain ⟨busy, done, err, code⟩ := st
  revert busy done err
  cases code <;> decide

@[simp] theorem Quad.get_set (q : Quad) (i : Fin 4) (v : Word) : (q.set i v).get i = v := by
  fin_cases i <;> rfl

/-! ## One access in one step -/

/-- An access that is next happens, where no bus error is recorded (20_memory.md R84). -/
theorem step_access {s : State} {a : Access} {es : List Event} (hbus : s.bus = .access a :: es)
    (hf : s.faults = []) : step s = .next (hostAccess a (setBus s es)) := by
  simp [step, hbus, hostTurn, hf]

/-- An access that is answered was not stopped by a recorded bus error. -/
theorem step_access_next {s t : State} {a : Access} {es : List Event}
    (hbus : s.bus = .access a :: es) (ht : step s = .next t) :
    s.faults = [] ∧ t = hostAccess a (setBus s es) := by
  obtain ⟨h, -⟩ | ⟨a', es', h, hf, rfl⟩ | ⟨es', h, -⟩ | ⟨es', h, -⟩ := step_cases ht <;>
    rw [hbus] at h <;> cases h
  exact ⟨hf, rfl⟩

/-- Every 32-bit access but a write is a read: it answers the register's word. -/
theorem performAccess_of_ne_write32 {kind : AccessKind} (h : kind ≠ .write32) (r : Reg) (v : Word)
    (s : State) : performAccess kind r v s = { s with resp := .data (readReg s r) } := by
  cases kind
  case write32 => exact absurd rfl h
  all_goals rfl

/-- A 32-bit access of a mapped register, allowed if the block is busy, reaches it. -/
theorem hostAccess_offset {s : State} {r : Reg} (hr : r.mapped s.params) {kind : AccessKind}
    (hk : kind.isWord = true) (hb : s.status.busy = true → allowedWhileBusy kind r = true)
    (v : Word) :
    hostAccess { kind := kind, offset := r.offset, value := v } s = performAccess kind r v s := by
  have ht : accessTarget { kind := kind, offset := r.offset, value := v } s = some r :=
    (accessTarget_eq_some_iff _ _ _).mpr
      ⟨hk, Reg.offset_aligned hr, Reg.ofOffset_offset hr, hb⟩
  rw [hostAccess, ht]

/-- A write that reaches its register has the register's effect (20_memory.md R85). -/
theorem step_write {s : State} {r : Reg} {v : Word} {es : List Event}
    (hbus : s.bus = asmWr r v :: es) (hf : s.faults = []) (hr : r.mapped s.params)
    (hb : s.status.busy = true → allowedWhileBusy .write32 r = true) :
    step s = .next { writeReg (setBus s es) r v with resp := .done } := by
  rw [step_access hbus hf, hostAccess_offset (s := setBus s es) hr rfl hb, performAccess]

/-- A read that reaches its register answers its word and does nothing else (20_memory.md R85). -/
theorem step_read {s : State} {r : Reg} {es : List Event}
    (hbus : s.bus = asmRd r :: es) (hf : s.faults = []) (hr : r.mapped s.params)
    (hb : s.status.busy = true → allowedWhileBusy .read32 r = true) :
    step s = .next { s with bus := es, resp := .data (readReg s r) } := by
  rw [step_access hbus hf, hostAccess_offset (s := setBus s es) hr rfl hb,
    performAccess_of_ne_write32 (by decide)]
  cases r <;> rfl

/-- A write of a register other than STATUS and CMD keeps all that decides the next access: the fault
record, the parameters, STATUS and the events in store. -/
theorem writeReg_keeps_port {r : Reg} (hs : r ≠ .status) (hc : r ≠ .cmd) (s : State) (v : Word) :
    (writeReg s r v).faults = s.faults ∧ (writeReg s r v).params = s.params ∧
      (writeReg s r v).status = s.status ∧ (writeReg s r v).bus = s.bus := by
  cases r
  case status => exact absurd rfl hs
  case cmd => exact absurd rfl hc
  case state | dbuf => simp [writeReg]
  all_goals exact ⟨rfl, rfl, rfl, rfl⟩

/-- A write of a register other than STATUS and CMD and a read right after: the read answers the word the
register then holds. -/
theorem step_write_then_read {s : State} {r : Reg} {v : Word} {es : List Event}
    (hbus : s.bus = asmWr r v :: asmRd r :: es) (hf : s.faults = []) (hr : r.mapped s.params)
    (hs : r ≠ .status) (hc : r ≠ .cmd)
    (hw : s.status.busy = true → allowedWhileBusy .write32 r = true)
    (hrd : s.status.busy = true → allowedWhileBusy .read32 r = true) :
    let t := { writeReg (setBus s (asmRd r :: es)) r v with resp := .done }
    step s = .next t ∧ step t = .next { t with bus := es, resp := .data (readReg t r) } := by
  obtain ⟨hfaults, hparams, hstatus, hbus'⟩ :=
    writeReg_keeps_port hs hc (setBus s (asmRd r :: es)) v
  refine ⟨step_write hbus hf hr hw, step_read hbus' (hfaults.trans hf) ?_ ?_⟩
  · exact hparams.symm ▸ hr
  · exact hstatus.symm ▸ hrd

end Sys2Proof.Machine
end

section
/-! Every operation of a step keeps the relations between the fields of the state (`State.Inv`): O59,
O60. -/

namespace Sys2Proof.Machine

/-! ## STATUS -/

theorem Status.consistent_iff (st : Status) :
    st.consistent = true ↔
      (st.err = true ↔ st.errcode ≠ .none) ∧ (st.busy = true → st.done = false ∧ st.err = false) := by
  obtain ⟨busy, done, err, code⟩ := st
  cases busy <;> cases err <;> simp [Status.consistent]

theorem Status.consistent_completed {st : Status} (h : st.consistent = true) :
    st.completed.consistent = true := by
  rw [Status.consistent_iff] at h ⊢
  exact ⟨h.1, fun hb => by cases hb⟩

theorem Status.consistent_failed {e : ErrCode} (he : e ≠ .none) (st : Status) :
    (st.failed e).consistent = true := by
  simp [Status.consistent_iff, Status.failed, he]

theorem Status.consistent_writeW1C {st : Status} (h : st.consistent = true) (v : Word) :
    (st.writeW1C v).consistent = true := by
  rw [Status.consistent_iff] at h ⊢
  cases hv : v.getLsbD 2 <;> simp_all [Status.writeW1C]

/-! ## Reset -/

/-- The state after reset meets the relations, whatever the parameters and the draw (10_state.md R59). -/
theorem afterReset_inv {p : Params} (hp : p.legal = true) (draw : Nat) :
    (State.afterReset p draw).Inv where
  params := hp
  status := rfl
  memWf := rfl
  memIn := fun _ h => by cases h
  slots := List.length_replicate
  zuc := fun _ h => by rw [List.eq_of_mem_replicate h]; rfl

theorem resetTurn_inv {s : State} (h : s.Inv) : (resetTurn s).Inv :=
  { afterReset_inv h.params (s.draw + 1) with }

/-! ## Fields the relations do not speak of -/

theorem setBus_inv {s : State} (h : s.Inv) (es : List Event) : (setBus s es).Inv := { h with }

theorem withResp_inv {s : State} (h : s.Inv) (r : Response) : { s with resp := r }.Inv :=
  { h with }

theorem busError_inv {s : State} (h : s.Inv) (a : Access) : (busError a s).Inv := { h with }

theorem withStatus_inv {s : State} (h : s.Inv) {st : Status} (hst : st.consistent = true) :
    { s with status := st }.Inv :=
  { h with status := hst }

/-! ## The buffers -/

theorem bufferOffset_iff (p : Params) (a : Nat) :
    bufferOffset p a = true ↔
      (stateBase ≤ a ∧ a < stateBase + 200) ∨ (dbufBase ≤ a ∧ a < dbufBase + p.dbufBytes) := by
  simp [bufferOffset]

/-- Bytes stored inside the buffers keep the relations. -/
theorem writeBytes_inv {s : State} (h : s.Inv) {a : Nat} {bs : List Byte}
    (hin : ∀ j, a ≤ j → j < a + bs.length → bufferOffset s.params j = true) :
    (writeBytes s a bs).Inv := by
  rw [writeBytes_eq_with_mem]
  refine { h with memWf := writeBytes_wf h.memWf a bs, memIn := fun x hx => ?_ }
  obtain ⟨hlo, hhi⟩ | hx := writeBytes_listed hx
  · exact hin _ hlo hhi
  · exact h.memIn x hx

theorem writeWord_inv {s : State} (h : s.Inv) {a : Nat} (v : Word)
    (hin : ∀ j, a ≤ j → j < a + 4 → bufferOffset s.params j = true) : (writeWord s a v).Inv :=
  writeBytes_inv h hin

/-! ## Host accesses -/

/-- A write of a register of the window keeps the relations (10_state.md R31 to R46). -/
theorem writeReg_inv {s : State} (h : s.Inv) {r : Reg} (hr : r.mapped s.params) (v : Word) :
    (writeReg s r v).Inv := by
  obtain ⟨hmod, -⟩ := (Params.legal_iff _).mp h.params
  cases r
  case cmd => exact { h with status := rfl }
  case status => exact withStatus_inv h (Status.consistent_writeW1C h.status v)
  case state k =>
    have hk : k < 50 := hr
    exact writeWord_inv h v fun j hlo hhi =>
      (bufferOffset_iff _ _).mpr (.inl ⟨by omega, by omega⟩)
  case dbuf k =>
    have hk := hr.1
    exact writeWord_inv h v fun j hlo hhi =>
      (bufferOffset_iff _ _).mpr (.inr ⟨by omega, by omega⟩)
  all_goals exact { h with }

theorem performAccess_inv {s : State} (h : s.Inv) (kind : AccessKind) {r : Reg}
    (hr : r.mapped s.params) (v : Word) : (performAccess kind r v s).Inv := by
  cases kind
  case write32 => exact withResp_inv (writeReg_inv h hr v) _
  all_goals exact withResp_inv h _

theorem hostAccess_inv {s : State} (h : s.Inv) (a : Access) : (hostAccess a s).Inv := by
  obtain ⟨-, ha⟩ | ⟨r, ht, ha⟩ := hostAccess_cases a s
  · exact ha ▸ busError_inv h a
  · obtain ⟨-, halign, hr, -⟩ := (accessTarget_eq_some_iff a s r).mp ht
    exact ha ▸ performAccess_inv h _ (Reg.of_ofOffset_eq_some halign a.offset.isLt hr).1 _

/-! ## Engine steps -/

/-- Every slot's ZUC record is in range, also past the end of the list. -/
theorem State.Inv.slot_zuc {s : State} (h : s.Inv) (c : Nat) : (s.slot c).zuc.inRange = true := by
  by_cases hc : c < s.ctx.length
  · rw [State.slot, List.getD_eq_getElem _ _ hc]
    exact h.zuc _ (List.getElem_mem hc)
  · rw [State.slot, List.getD_eq_default _ _ (by omega)]
    rfl

theorem slotAfter_zuc_inRange {s : State} (h : s.Inv) (i : Instr) (c : Nat) :
    (slotAfter i s c).zuc.inRange = true := by
  cases i
  case zucInit => exact zucInit_nonzero _ _
  case zucGenks => exact ZucRecord.inRange_zucAfter (h.slot_zuc c) _
  case ctxClear => rfl
  all_goals exact h.slot_zuc c

theorem length_performOf_ctx (i : Instr) (s : State) :
    (performOf i s).ctx.length = s.ctx.length := by
  cases hi : i.slot? with
  | none => rw [performOf_ctx_of_slotless hi]
  | some c => rw [performOf_ctx_of_slot hi, List.length_set]

theorem performOf_zuc_inRange {s : State} (h : s.Inv) (i : Instr) :
    ∀ x ∈ (performOf i s).ctx, x.zuc.inRange = true := by
  intro x hx
  cases hi : i.slot? with
  | none => exact h.zuc x (performOf_ctx_of_slotless hi s ▸ hx)
  | some c =>
    rw [performOf_ctx_of_slot hi] at hx
    obtain hx | rfl := List.mem_or_eq_of_mem_set hx
    · exact h.zuc x hx
    · exact slotAfter_zuc_inRange h i c

/-- A command that Check lets through stores bytes of its buffer only (20_memory.md R88). -/
theorem storedBytes_inv {s : State} (h : s.Inv) {i : Instr} (hc : check i s = .none) :
    (writeBytes s (storeBase i) (storedBytes i s)).Inv := by
  refine writeBytes_inv h fun j hlo hhi => (bufferOffset_iff _ _).mpr ?_
  by_cases hi : i = .keccakP1600
  · subst hi
    rw [storedBytes_keccakP1600_length] at hhi
    exact .inl ⟨hlo, hhi⟩
  · have := storedBytes_length_le hc hi
    rw [storeBase_of_ne_keccakP1600 hi] at hlo hhi
    exact .inr ⟨hlo, by omega⟩

/-- The own effect of a command that Check lets through keeps the relations. -/
theorem performOf_inv {s : State} (h : s.Inv) {i : Instr} (hc : check i s = .none) :
    (performOf i s).Inv := by
  have hmem := storedBytes_inv h hc
  rw [performOf_eq_with]
  exact
    { h with
      memWf := (performOf_mem i s).symm ▸ hmem.memWf
      memIn := fun x hx => writeBytes_params s _ _ ▸ hmem.memIn x (performOf_mem i s ▸ hx)
      slots := (length_performOf_ctx i s).trans h.slots
      zuc := performOf_zuc_inRange h i }

theorem raiseError_inv {s : State} (h : s.Inv) {e : ErrCode} (he : e ≠ .none) :
    (raiseError e s).Inv :=
  withStatus_inv h (Status.consistent_failed he _)

theorem exec_inv {s t : State} (h : s.Inv) {i : Instr} (ht : exec i s = .next t) : t.Inv := by
  obtain ⟨hc, rfl⟩ | ⟨hc, rfl⟩ := exec_cases ht
  · have hp := performOf_inv h hc
    exact withStatus_inv hp (Status.consistent_completed hp.status)
  · exact raiseError_inv h hc

theorem engineTurn_inv {s t : State} (h : s.Inv) (ht : engineTurn s = .next t) : t.Inv := by
  obtain ⟨-, rfl⟩ | ⟨-, -, rfl⟩ | ⟨-, i, -, hi⟩ := engineTurn_cases ht
  · exact h
  · exact raiseError_inv h (by decide)
  · exact exec_inv h hi

/-! ## The obligations -/

/-- Settles O60: a host access, an engine step and a reset each keep the relations. -/
theorem stepKeepsInvariant : Obligations.StepKeepsInvariant := by
  intro s t h ht
  obtain ⟨-, ht⟩ | ⟨a, es, -, -, rfl⟩ | ⟨es, -, ht⟩ | ⟨es, -, rfl⟩ := step_cases ht
  · exact engineTurn_inv h ht
  · exact hostAccess_inv (setBus_inv h es) a
  · exact engineTurn_inv (setBus_inv h es) ht
  · exact resetTurn_inv (setBus_inv h es)

/-- Settles O59: the default parameters are legal, and every reset of legal parameters meets the
relations. -/
theorem resetMeetsInvariant : Obligations.ResetMeetsInvariant :=
  afterReset_inv (by decide) 0

end Sys2Proof.Machine
end

section
/-! What a command keeps of the operand registers, RES, STATE and the context slots: O39 to O42. -/

namespace Sys2Proof.Machine

/-- Settles O39: an engine step reaches STATUS, the results, the buffers and the context slots only, so
every other field is the old one. -/
theorem commandsKeepOperandRegisters : Obligations.CommandsKeepOperandRegisters := by
  intro i s t h
  rw [exec_eq_with h]
  exact ⟨rfl, rfl, rfl, rfl, rfl, rfl, rfl, rfl, rfl, rfl, rfl, rfl⟩

/-- Settles O40, by the four ways a command can treat RES. -/
theorem commandsWriteTheirResultsOnly : Obligations.CommandsWriteTheirResultsOnly := by
  intro i s t h
  have hcases : t.res = (performOf i s).res ∨ t.res = s.res :=
    (exec_cases h).imp (fun ⟨_, ht⟩ => ht ▸ rfl) (fun ⟨_, ht⟩ => ht ▸ rfl)
  obtain hres | hres := hcases
  · rw [hres]
    obtain hp | ⟨hi, v, hp⟩ | ⟨⟨c, rfl⟩, v, w, hp⟩ | ⟨hi, v, w, x, hp⟩ := performOf_res_cases i s
    · simp [hp]
    · simp [hp, hi]
    · simp [hp]
    · simp [hp, hi]
  · simp [hres]

/-- Settles O41: a command other than KECCAK.P1600 stores bytes in DBUF only, and STATE lies below it. -/
theorem onlyKeccakWritesStateBuffer : Obligations.OnlyKeccakWritesStateBuffer := by
  intro i s t h hi j hj
  refine exec_keeps (fun u => readByte u (0x0100 + j)) h (fun _ _ => rfl) ?_
  exact readByte_performOf_of_lt_dbufBase hi s (by unfold dbufBase; omega)

/-- Settles O42: a command replaces its own slot in the list of slots, or none. -/
theorem commandsKeepOtherSlots : Obligations.CommandsKeepOtherSlots := by
  intro i s t h
  exact ⟨fun hi => exec_keeps State.ctx h (fun _ _ => rfl) (performOf_ctx_of_slotless hi s),
    fun c d hi hd => exec_keeps (State.slot · d) h (fun _ _ => rfl) (performOf_slot_of_ne hi hd s)⟩

end Sys2Proof.Machine
end

section
/-! The window: its unmapped offsets, and what a host's write or read of each register does: O47, O49,
O50, O51, O56. -/

namespace Sys2Proof.Machine

/-- Settles O47: the registers' rows leave out 0x002C, and from 0x0060 on only the buffers are mapped. -/
theorem unmappedOffsets : Obligations.UnmappedOffsets := by
  constructor
  · intro p off hp halign _
    obtain ⟨hmod, -⟩ := (Params.legal_iff p).mp hp
    rw [Reg.ofOffset_eq_none_iff halign, Reg.ofBufferOffset_eq_none_iff]
    simp only [stateBase, dbufBase]
    omega
  · intro s a es hbus hf hnone
    have ht : accessTarget a (setBus s es) = none := by
      refine Option.eq_none_iff_forall_ne_some.mpr fun r hr => ?_
      obtain ⟨-, -, hr, -⟩ := (accessTarget_eq_some_iff _ _ _).mp hr
      exact absurd (hnone.symm.trans hr) (by simp)
    rw [step_access hbus hf, hostAccess, ht]
    simp [busError, setBus, hf]

/-- Settles O51: each register's write and read are one write of `writeReg` and one of `readReg`. -/
theorem operandRegistersHoldWhatIsWritten : Obligations.OperandRegistersHoldWhatIsWritten := by
  intro s r v es hbus hf hidle
  have hpair (hr : r.mapped s.params) (hs : r ≠ .status) (hc : r ≠ .cmd) :=
    step_write_then_read hbus hf hr hs hc (by simp [hidle]) (by simp [hidle])
  refine ⟨?length, ?count, ?bearer, ?direction, ?fresh, ?nwords, ?iv, ?key⟩
  case iv =>
    rintro i rfl
    obtain ⟨hw, hr⟩ := hpair trivial (by simp) (by simp)
    exact ⟨_, hw, hr.trans (by simp [readReg, writeReg, setBus])⟩
  case key =>
    rintro i rfl
    exact ⟨_, hpair trivial (by simp) (by simp)⟩
  all_goals
    rintro rfl
    exact ⟨_, hpair trivial (by simp) (by simp)⟩

/-- Settles O49: a write of STATUS reaches it while idle, a read always, and STATUS reads as its fields'
number. -/
theorem statusFieldsAndAcknowledge : Obligations.StatusFieldsAndAcknowledge := by
  refine ⟨fun s v es hbus hf hidle => ?_, fun s es hbus hf => ?_⟩
  · rw [step_write hbus hf trivial (by simp [hidle])]
    simp [writeReg, Status.writeW1C, setBus, hidle]
  · rw [step_read hbus hf trivial (fun _ => rfl), readReg, Status.word_eq_ofNat]
    cases s.status.errcode <;> rfl

/-- Settles O50: `writeReg` leaves ID, CFG and RES as they are, and ID and CFG may be read while busy. -/
theorem readOnlyRegisters : Obligations.ReadOnlyRegisters := by
  refine ⟨fun s r v es hr hbus hf hidle => ?_, fun s es hf hp => ⟨fun hbus => ?_, fun hbus => ?_⟩,
    fun s es hf hidle => ⟨?_, ?_, ?_, ?_, ?_⟩⟩
  · have hreg : r.mapped s.params ∧ writeReg (setBus s es) r v = setBus s es := by
      simp only [List.mem_cons, List.not_mem_nil, or_false] at hr
      obtain rfl | rfl | rfl | rfl | rfl | rfl := hr <;> exact ⟨trivial, rfl⟩
    rw [step_write hbus hf hreg.1 (by simp [hidle]), hreg.2]
    rfl
  · exact step_read hbus hf trivial (fun _ => rfl)
  · rw [step_read hbus hf trivial (fun _ => rfl), readReg, cfgWord_eq_ofNat hp]
  all_goals exact fun hbus => step_read hbus hf trivial (by simp [hidle])

/-- Settles O56: IRQEN is the one register that may be written while the block is busy. -/
theorem interruptIsALevel : Obligations.InterruptIsALevel := by
  refine ⟨fun _ => rfl, fun s v es hbus hf => ?_⟩
  obtain ⟨hw, hr⟩ := step_write_then_read hbus hf (r := .irqen) trivial (by simp) (by simp)
    (fun _ => rfl) (fun _ => rfl)
  exact ⟨_, hw, rfl, rfl, hr⟩

end Sys2Proof.Machine
end

section
/-! A host access reads neither KEY nor a context record (10_state.md R42, R54): O55. -/

namespace Sys2Proof.Machine

/-- The state with other contents of KEY and of the context slots. -/
def withSecrets (s : State) (k : Quad) (x : List Ctx) : State := { s with key := k, ctx := x }

theorem accessTarget_withSecrets (a : Access) (s : State) (k : Quad) (x : List Ctx) :
    accessTarget a (withSecrets s k x) = accessTarget a s := rfl

theorem readReg_withSecrets (s : State) (k : Quad) (x : List Ctx) (r : Reg) :
    readReg (withSecrets s k x) r = readReg s r := by
  cases r <;> rfl

theorem writeBytes_withSecrets (s : State) (k : Quad) (x : List Ctx) (a : Nat) (bs : List Byte) :
    writeBytes (withSecrets s k x) a bs = withSecrets (writeBytes s a bs) k x := by
  induction bs generalizing s a with
  | nil => rfl
  | cons b bs ih => exact ih (writeByte s a b) (a + 1)

/-- A write has the same effect whatever KEY and the slots hold, but on KEY itself. -/
theorem writeReg_withSecrets (s : State) (k : Quad) (x : List Ctx) (r : Reg) (v : Word) :
    ∃ k', writeReg (withSecrets s k x) r v = withSecrets (writeReg s r v) k' x := by
  cases r
  case key i => exact ⟨k.set i v, rfl⟩
  case state | dbuf => exact ⟨k, writeBytes_withSecrets s k x _ _⟩
  all_goals exact ⟨k, rfl⟩

theorem performAccess_withSecrets (kind : AccessKind) (r : Reg) (v : Word) (s : State) (k : Quad)
    (x : List Ctx) :
    ∃ k', performAccess kind r v (withSecrets s k x) =
      withSecrets (performAccess kind r v s) k' x := by
  by_cases hw : kind = .write32
  · obtain ⟨k', hk⟩ := writeReg_withSecrets s k x r v
    exact ⟨k', by rw [hw, performAccess, hk]; rfl⟩
  · rw [performAccess_of_ne_write32 hw, performAccess_of_ne_write32 hw, readReg_withSecrets]
    exact ⟨k, rfl⟩

theorem hostAccess_withSecrets (a : Access) (s : State) (k : Quad) (x : List Ctx) :
    ∃ k', hostAccess a (withSecrets s k x) = withSecrets (hostAccess a s) k' x := by
  simp only [hostAccess, accessTarget_withSecrets]
  cases accessTarget a s with
  | none => exact ⟨k, rfl⟩
  | some r => exact performAccess_withSecrets a.kind r a.value s k x

/-- Settles O55: the access acts on both states alike, but on KEY itself. -/
theorem hostLearnsNoSecret : Obligations.HostLearnsNoSecret := by
  intro s t t' k x a es hbus ht ht'
  obtain ⟨hf, rfl⟩ := step_access_next hbus ht
  obtain ⟨-, rfl⟩ := step_access_next (s := withSecrets s k x) hbus ht'
  obtain ⟨k', hk⟩ := hostAccess_withSecrets a (setBus s es) k x
  rw [show setBus (withSecrets s k x) es = withSecrets (setBus s es) k x from rfl, hk]
  exact ⟨rfl, rfl⟩

end Sys2Proof.Machine
end

section
/-! The state after reset (10_state.md R59): O57. -/

namespace Sys2Proof.Machine

theorem Status.reset_word : Status.reset.word = 0 := by decide

theorem slot_afterReset (p : Params) (draw c : Nat) : (State.afterReset p draw).slot c = .clear := by
  by_cases hc : c < p.nCtx <;> simp [State.slot, State.afterReset, hc]

/-- After reset a command that reads a record of an existing slot fails with NOCTX: every operand is 0
and in range, and no record is valid. -/
theorem exec_afterReset_of_recordMissing {p : Params} {i : Instr} {c : Nat} (draw : Nat)
    (hslot : i.slot? = some c) (hc : c < p.nCtx)
    (hmissing : recordMissing i (State.afterReset p draw) = true) :
    exec i (State.afterReset p draw) = .next (raiseError .noctx (State.afterReset p draw)) := by
  have hcheck : check i (State.afterReset p draw) = .noctx := by
    have hexists : slotMissing i (State.afterReset p draw) = false := by
      simp only [slotMissing, hslot]
      exact decide_eq_false (Nat.not_le.mpr hc)
    have hbearer : (State.afterReset p draw).bearer.toNat = 0 := rfl
    have hdirection : (State.afterReset p draw).direction.toNat = 0 := rfl
    have hlength : opLength (State.afterReset p draw) = 0 := rfl
    have hnwords : opNwords (State.afterReset p draw) = 0 := rfl
    simp [check, hexists, hbearer, hdirection, hlength, hnwords, hmissing]
  rw [exec_eq, hcheck, engineStep_error (by decide)]

/-- Settles O57: the registers by evaluation, CFG as a number, and NOCTX since no record is valid. -/
theorem stateAfterReset : Obligations.StateAfterReset := by
  refine ⟨fun p d hp => ?_, defaultParams, 0, by decide, rfl⟩
  refine ⟨rfl, cfgWord_eq_ofNat hp, rfl, Status.reset_word, rfl, rfl, rfl, rfl, rfl, rfl, rfl, rfl,
    rfl, rfl, fun _ => rfl, List.length_replicate, fun c => ?_, fun c hc => ⟨?_, ?_, ?_⟩, rfl, rfl⟩
  · rw [slot_afterReset]; exact ⟨rfl, rfl, rfl⟩
  all_goals
    exact exec_afterReset_of_recordMissing d rfl hc (by rw [recordMissing, slot_afterReset]; rfl)

end Sys2Proof.Machine
end

section
/-! SUPPORT. Which accesses are taken while the block is busy (20_memory.md R86, 60_exceptions.md
R376), and what one access of the port can change. -/

namespace Sys2Proof.Machine

/-! ## Liberties -/

/-- The registers an access may reach while BUSY = 1 stand at offsets of their own, and a buffer word is
none of them. -/
theorem Reg.offset_of_allowedWhileBusy {p : Params} {kind : AccessKind} {off : Nat} {r : Reg}
    (h : Reg.ofOffset p off = some r) (ha : allowedWhileBusy kind r = true) :
    off = r.offset.toNat := by
  unfold Reg.ofOffset at h
  split at h
  case h_24 =>
    unfold Reg.ofBufferOffset at h
    split at h
    · cases h; cases kind <;> cases ha
    split at h
    · cases h; cases kind <;> cases ha
    · cases h
  all_goals cases h; rfl

/-- The accesses allowed while BUSY = 1, by register. -/
theorem allowedWhileBusy_iff (kind : AccessKind) (r : Reg) :
    allowedWhileBusy kind r = true ↔
      (kind = .read32 ∧ r ∈ [Reg.id, .status, .cfg, .irqen]) ∨ (kind = .write32 ∧ r = .irqen) := by
  cases kind <;> cases r <;> simp [allowedWhileBusy]

/-- The liberties, by offset: a read of ID, STATUS, CFG or IRQEN, or a write of IRQEN. -/
theorem Access.isLiberty_iff (a : Access) (p : Params) :
    a.isLiberty p = true ↔
      (a.kind = .read32 ∧ a.offset ∈ [(0x0000 : BitVec 16), 0x0008, 0x0028, 0x000C]) ∨
        (a.kind = .write32 ∧ a.offset = 0x000C) := by
  constructor
  · intro h
    unfold Access.isLiberty at h
    cases hr : Reg.ofOffset p a.offset.toNat with
    | none => simp [hr] at h
    | some r =>
      simp only [hr] at h
      have hoff : a.offset = r.offset :=
        BitVec.eq_of_toNat_eq (Reg.offset_of_allowedWhileBusy hr h)
      obtain ⟨hk, hmem⟩ | ⟨hk, rfl⟩ := (allowedWhileBusy_iff _ _).mp h
      · simp only [List.mem_cons, List.not_mem_nil, or_false] at hmem
        obtain rfl | rfl | rfl | rfl := hmem <;> simp [hk, hoff, Reg.offset]
      · exact .inr ⟨hk, hoff⟩
  · rintro (⟨hk, ho⟩ | ⟨hk, ho⟩)
    · simp only [List.mem_cons, List.not_mem_nil, or_false] at ho
      obtain ho | ho | ho | ho := ho <;>
        simp [Access.isLiberty, hk, ho, Reg.ofOffset, allowedWhileBusy]
    · simp [Access.isLiberty, hk, ho, Reg.ofOffset, allowedWhileBusy]

theorem Access.isLiberty_of_ofOffset {a : Access} {p : Params} {r : Reg}
    (h : Reg.ofOffset p a.offset.toNat = some r) : a.isLiberty p = allowedWhileBusy a.kind r := by
  simp [Access.isLiberty, h]

theorem AccessKind.isWord_iff (k : AccessKind) : k.isWord = true ↔ k = .read32 ∨ k = .write32 := by
  cases k <;> simp [AccessKind.isWord]

/-- When an access reaches no register: width and alignment (20_memory.md R82), an unmapped offset
(10_state.md R47), no liberty while BUSY = 1 (R86). -/
theorem accessTarget_eq_none_iff (a : Access) (s : State) :
    accessTarget a s = none ↔
      a.kind.isWord = false ∨ a.offset.toNat % 4 ≠ 0 ∨ Reg.ofOffset s.params a.offset.toNat = none ∨
        (s.status.busy = true ∧ a.isLiberty s.params = false) := by
  cases hr : Reg.ofOffset s.params a.offset.toNat with
  | none => simp [accessTarget, hr]
  | some r =>
    rw [Access.isLiberty_of_ofOffset hr]
    by_cases hword : a.kind.isWord = true ∧ a.offset.toNat % 4 = 0
    · simp [accessTarget, hr, hword]
    · exact iff_of_true (if_neg hword)
        ((not_and_or.mp hword).imp (Bool.not_eq_true _).mp .inl)

/-! ## What an access changes -/

theorem writeReg_faults (s : State) (r : Reg) (v : Word) : (writeReg s r v).faults = s.faults := by
  cases r
  case state | dbuf => exact writeBytes_faults s _ _
  all_goals rfl

/-- An access that reaches a register is answered without a bus error and records none. -/
theorem performAccess_resp_ne_busError (kind : AccessKind) (r : Reg) (v : Word) (s : State) :
    (performAccess kind r v s).resp ≠ .busError := by
  cases kind <;> simp [performAccess]

theorem performAccess_faults (kind : AccessKind) (r : Reg) (v : Word) (s : State) :
    (performAccess kind r v s).faults = s.faults := by
  cases kind
  case write32 => exact writeReg_faults s r v
  all_goals rfl

/-- A host access is answered by a bus error exactly when it reaches no register. -/
theorem hostAccess_eq_busError_iff (a : Access) (s : State) :
    hostAccess a s = busError a s ↔ accessTarget a s = none := by
  obtain ⟨hn, ha⟩ | ⟨r, hr, ha⟩ := hostAccess_cases a s
  · simp [hn, ha]
  · refine iff_of_false (fun h => ?_) (by simp [hr])
    exact performAccess_resp_ne_busError _ _ _ _ (ha ▸ h ▸ busError_resp s a)

/-- A read that reaches a register answers its word and changes nothing else (20_memory.md R85). -/
theorem hostAccess_read {a : Access} {s : State} {r : Reg} (hr : accessTarget a s = some r)
    (hk : a.kind ≠ .write32) : hostAccess a s = { s with resp := .data (readReg s r) } := by
  rw [hostAccess, hr, ← performAccess_of_ne_write32 hk r a.value s]

/-- While BUSY = 1 an access changes IRQEN, the fault record and the port's answer at most
(20_memory.md R86). -/
theorem hostAccess_of_busy {s : State} (hb : s.status.busy = true) (a : Access) :
    hostAccess a s = { s with
      doneie := (hostAccess a s).doneie
      faults := (hostAccess a s).faults
      resp := (hostAccess a s).resp } := by
  obtain ⟨-, ha⟩ | ⟨r, hr, ha⟩ := hostAccess_cases a s
  · rw [ha]; rfl
  · rw [ha]
    obtain ⟨-, -, -, hfree⟩ := (accessTarget_eq_some_iff a s r).mp hr
    obtain ⟨hk, -⟩ | ⟨hk, rfl⟩ := (allowedWhileBusy_iff _ _).mp (hfree hb)
    · rw [hk]; rfl
    · rw [hk]; rfl

/-! ## Words of the buffers -/

theorem wordOfBytes_extract (v : Word) :
    wordOfBytes (v.extractLsb' 24 8) (v.extractLsb' 16 8) (v.extractLsb' 8 8) (v.extractLsb' 0 8) =
      v := by
  rw [wordOfBytes, BitVec.extractLsb'_append_extractLsb'_eq_extractLsb' (by decide),
    BitVec.extractLsb'_append_extractLsb'_eq_extractLsb' (by decide),
    BitVec.extractLsb'_append_extractLsb'_eq_extractLsb' (by decide)]
  exact BitVec.extractLsb'_eq_self

/-- The four bytes a word is stored in, most significant first (20_memory.md R83). -/
theorem readByte_writeWord (s : State) (a : Nat) (v : Word) :
    readByte (writeWord s a v) a = v.extractLsb' 24 8 ∧
    readByte (writeWord s a v) (a + 1) = v.extractLsb' 16 8 ∧
    readByte (writeWord s a v) (a + 2) = v.extractLsb' 8 8 ∧
    readByte (writeWord s a v) (a + 3) = v.extractLsb' 0 8 :=
  have hbyte (i : Nat) (hi : i < (wordBytes v).length) := readByte_writeBytes_of_in s a _ i hi
  ⟨hbyte 0 (by simp), hbyte 1 (by simp), hbyte 2 (by simp), hbyte 3 (by simp)⟩

theorem readByte_writeWord_of_out (s : State) {a x : Nat} (v : Word) (h : x < a ∨ a + 4 ≤ x) :
    readByte (writeWord s a v) x = readByte s x :=
  readByte_writeBytes_of_out s a _ x h

theorem readWord_writeWord (s : State) (a : Nat) (v : Word) :
    readWord (writeWord s a v) a = v := by
  obtain ⟨h0, h1, h2, h3⟩ := readByte_writeWord s a v
  rw [readWord, h0, h1, h2, h3, wordOfBytes_extract]

end Sys2Proof.Machine
end

section
/-! The port: when an access is a bus error, what a read leaves, what a buffer word's write and read do:
O46, O52, O53. -/

namespace Sys2Proof.Machine

/-- Settles O46: an access is a bus error exactly when it reaches no register, and after one the port
stops. -/
theorem badAccessesAreBusErrors : Obligations.BadAccessesAreBusErrors := by
  intro s a es hbus
  refine ⟨fun hf => ?_, fun hf => by simp [step, hbus, hostTurn, hf]⟩
  have hstep : step s = .next (hostAccess a (setBus s es)) := step_access hbus hf
  have herror : busError a (setBus s es) = { s with
      bus := es, faults := [{ offset := a.offset, kind := a.kind }], resp := .busError } := by
    simp [busError, setBus, hf]
  have hkind : a.kind.isWord = false ↔ a.kind ≠ .read32 ∧ a.kind ≠ .write32 := by
    rw [← Bool.not_eq_true, AccessKind.isWord_iff, not_or]
  have hfree : a.isLiberty s.params = false ↔
      ¬ (a.kind = .read32 ∧ a.offset ∈ [(0x0000 : BitVec 16), 0x0008, 0x0028, 0x000C]) ∧
        ¬ (a.kind = .write32 ∧ a.offset = 0x000C) := by
    rw [← Bool.not_eq_true, Access.isLiberty_iff, not_or]
  rw [hstep, ← herror, ← hkind, ← hfree, Host.Outcome.next.injEq, hostAccess_eq_busError_iff]
  exact (accessTarget_eq_none_iff a (setBus s es)).symm

/-- Settles O53: the first read leaves all that the second one looks at. -/
theorem readsHaveNoSideEffect : Obligations.ReadsHaveNoSideEffect := by
  intro s t u off v v' es hbus ht hresp hu
  obtain ⟨-, rfl⟩ := step_access_next hbus ht
  obtain ⟨-, he⟩ | ⟨r, hr, -⟩ := hostAccess_cases _ (setBus s _)
  · exact absurd (congrArg State.resp he) hresp
  rw [hostAccess_read hr (by simp)] at hu ⊢
  obtain ⟨-, hu⟩ := step_access_next rfl hu
  rw [hu.trans (hostAccess_read (r := r) hr (by simp))]
  exact ⟨⟨_, rfl⟩, by cases r <;> rfl, rfl, by cases r <;> rfl⟩

/-- Under legal parameters a buffer word is mapped, and its write and read are those of the word at its
window offset. -/
theorem Reg.buffer_word {s : State} {k base : Nat} {r : Reg} (hp : s.params.legal = true)
    (hr : (r = .dbuf k ∧ base = 0x1000 ∧ 4 * k < s.params.dbufBytes) ∨
      (r = .state k ∧ base = 0x0100 ∧ k < 50)) :
    r.mapped s.params ∧ r ≠ .status ∧ r ≠ .cmd ∧
      (∀ u v, writeReg u r v = writeWord u (base + 4 * k) v) ∧
      ∀ u, readReg u r = readWord u (base + 4 * k) := by
  obtain ⟨-, -, hbuf, -⟩ := (Params.legal_iff _).mp hp
  obtain ⟨rfl, rfl, hk⟩ | ⟨rfl, rfl, hk⟩ := hr
  · exact ⟨⟨hk, by unfold dbufBase; omega⟩, by simp, by simp, fun _ _ => rfl, fun _ => rfl⟩
  · exact ⟨hk, by simp, by simp, fun _ _ => rfl, fun _ => rfl⟩

/-- Settles O52: the write stores the word's four bytes and the read puts them together again. -/
theorem bufferWordsAreBigEndian : Obligations.BufferWordsAreBigEndian := by
  intro s k base r v es hp hr hbus hf hidle
  obtain ⟨hmapped, hstatus, hcmd, hwrite, hread⟩ := Reg.buffer_word hp hr
  obtain ⟨ht, hu⟩ := step_write_then_read hbus hf hmapped hstatus hcmd (by simp [hidle])
    (by simp [hidle])
  have hword := readWord_writeWord (setBus s (asmRd r :: es)) (base + 4 * k) v
  obtain ⟨h0, h1, h2, h3⟩ := readByte_writeWord (setBus s (asmRd r :: es)) (base + 4 * k) v
  have hout (x : Nat) := readByte_writeWord_of_out (setBus s (asmRd r :: es)) (a := base + 4 * k)
    (x := x) v
  obtain ⟨m, hm⟩ : ∃ m, writeWord (setBus s (asmRd r :: es)) (base + 4 * k) v =
      { setBus s (asmRd r :: es) with mem := m } := ⟨_, writeBytes_eq_with_mem _ _ _⟩
  rw [hwrite, hm] at ht hu
  rw [hread, show readWord _ _ = v from hm ▸ hword] at hu
  rw [hm] at h0 h1 h2 h3 hout
  exact ⟨_, _, ht, hu, rfl, rfl, h0, h1, h2, h3, hout⟩

end Sys2Proof.Machine
end

section
/-! SUPPORT. A message in DBUF (20_memory.md R88, R89): what of it two states must share to treat it
alike, and ApplyKeystream (40_kasumi.md R150) by bits. -/

namespace Sys2Proof.Machine

/-! ## The message a state holds -/

theorem readBytes_congr {s t : State} {a n : Nat}
    (h : ∀ x, a ≤ x → x < a + n → readByte t x = readByte s x) :
    readBytes t a n = readBytes s a n := by
  refine List.map_congr_left fun i hi => h _ (by omega) ?_
  have := List.mem_range.mp hi
  omega

/-- Storing the same bytes keeps two states alike where they were. -/
theorem readByte_writeBytes_congr {s t : State} (a : Nat) (bs : List Byte) {x : Nat}
    (h : readByte t x = readByte s x) :
    readByte (writeBytes t a bs) x = readByte (writeBytes s a bs) x := by
  induction bs generalizing s t a with
  | nil => exact h
  | cons b bs ih =>
    refine ih (s := writeByte s a b) (t := writeByte t a b) (a + 1) ?_
    rw [readByte_writeByte, readByte_writeByte, h]

/-! ## ApplyKeystream -/

theorem length_applyBytes (n : Nat) (ds ks : List Byte) :
    (applyBytes n ds ks).length = min ds.length ks.length := by
  induction ds generalizing n ks with
  | nil => simp [applyBytes]
  | cons d ds ih =>
    cases ks with
    | nil => simp [applyBytes]
    | cons k ks => simp [applyBytes, ih, Nat.add_min_add_right]

theorem getElem_applyBytes (n : Nat) (ds ks : List Byte) (i : Nat)
    (h : i < (applyBytes n ds ks).length) :
    (applyBytes n ds ks)[i] = xorLeading (min (n - 8 * i) 8)
      (ds[i]'(by rw [length_applyBytes] at h; omega))
      (ks[i]'(by rw [length_applyBytes] at h; omega)) := by
  induction ds generalizing n ks i with
  | nil => simp [applyBytes] at h
  | cons d ds ih =>
    cases ks with
    | nil => simp [applyBytes] at h
    | cons k ks =>
      cases i with
      | zero => simp [applyBytes]
      | succ i =>
        simp only [applyBytes, List.getElem_cons_succ, ih]
        congr 2
        omega

@[simp] theorem xorLeading_zero_left (old ks : Byte) : xorLeading 0 old ks = old := by
  simp [xorLeading]

@[simp] theorem xorLeading_zero_right (n : Nat) (old : Byte) : xorLeading n old 0 = old := by
  simp [xorLeading]

/-- Bit `k` of a byte, the most significant first, after the leading `n` bits have been XORed. -/
theorem getLsbD_xorLeading {k : Nat} (n : Nat) (hk : k < 8) (old ks : Byte) :
    (xorLeading n old ks).getLsbD (7 - k) =
      (old.getLsbD (7 - k) ^^ (decide (k < n) && ks.getLsbD (7 - k))) := by
  have hmask : (~~~ ((0xFF : Byte) >>> n)).getLsbD (7 - k) = decide (k < n) := by
    have hall : ∀ j, (0xFF : Byte).getLsbD j = decide (j < 8) := fun j => by
      rw [show (0xFF : Byte) = BitVec.allOnes 8 from rfl, BitVec.getLsbD_allOnes]
    rw [BitVec.getLsbD_not, BitVec.getLsbD_ushiftRight, hall, ← decide_not, ← Bool.decide_and]
    exact decide_eq_decide.mpr (by omega)
  rw [xorLeading, BitVec.getLsbD_xor, BitVec.getLsbD_and, hmask, Bool.and_comm]

theorem lt_ceilDiv_iff (q n : Nat) : q < ceilDiv n 8 ↔ 8 * q < n := by
  unfold ceilDiv; omega

/-- ApplyKeystream, byte by byte: the message bits of a byte are XORed with the keystream's, where the
keystream reaches, and every other bit is kept (R150). -/
theorem readByte_applyKeystream (s : State) (ks : List Byte) (q : Nat) :
    readByte (applyKeystream s ks) (dbufBase + q) =
      xorLeading (min (opLength s - 8 * q) 8) (readByte s (dbufBase + q)) (ks.getD q 0) := by
  have hlen := length_applyBytes (opLength s) (messageBytes s) ks
  rw [messageBytes_length] at hlen
  by_cases hq : q < (applyBytes (opLength s) (messageBytes s) ks).length
  · rw [applyKeystream, readByte_writeBytes_of_in _ _ _ _ hq, getElem_applyBytes,
      List.getD_eq_getElem _ _ (by omega)]
    simp only [messageBytes, readBytes_getElem]
  · rw [applyKeystream, readByte_writeBytes_of_out _ _ _ _ (.inr (by omega))]
    by_cases hmsg : q < ceilDiv (opLength s) 8
    · rw [List.getD_eq_default _ _ (by omega), xorLeading_zero_right]
    · rw [lt_ceilDiv_iff] at hmsg
      rw [show min (opLength s - 8 * q) 8 = 0 by omega, xorLeading_zero_left]

/-- ApplyKeystream, bit by bit (R150). -/
theorem msgBit_applyKeystream (s : State) (ks : List Byte) (j : Nat) :
    msgBit (applyKeystream s ks) j =
      (msgBit s j ^^ (decide (j < opLength s) && (ks.getD (j / 8) 0).getLsbD (7 - j % 8))) := by
  rw [msgBit, readByte_applyKeystream, getLsbD_xorLeading _ (Nat.mod_lt _ (by decide)), msgBit]
  congr 3
  exact propext (by omega)

end Sys2Proof.Machine
end

section
/-! What a command reads and writes of DBUF: O43. -/

namespace Sys2Proof.Machine

/-- The state with other contents of the buffers. -/
def withBuffers (s : State) (m : Memory) (d : Nat) : State := { s with mem := m, draw := d }

theorem check_withBuffers (i : Instr) (s : State) (m : Memory) (d : Nat) :
    check i (withBuffers s m d) = check i s := by
  cases i <;> rfl

/-- The message is its bytes of DBUF and no others (20_memory.md R88). -/
theorem messageBytes_withBuffers {s : State} {m : Memory} {d : Nat}
    (h : ∀ a, dbufBase ≤ a → a < dbufBase + ceilDiv (opLength s) 8 →
      readByte (withBuffers s m d) a = readByte s a) :
    messageBytes (withBuffers s m d) = messageBytes s :=
  readBytes_congr h

/-- A confidentiality command applies a keystream to DBUF. -/
theorem performOf_eq_applyKeystream {i : Instr} (hi : i ∈ [Instr.kasumiF8, .snow3gUea2, .zucEea3])
    (s : State) : ∃ ks, performOf i s = applyKeystream s ks := by
  simp only [List.mem_cons, List.not_mem_nil, or_false] at hi
  obtain rfl | rfl | rfl := hi <;> exact ⟨_, rfl⟩

/-- How many bytes of DBUF a command stores. -/
theorem storedBytes_length_le_bound (i : Instr) (s : State) {n : Nat} (hi : i ≠ .keccakP1600)
    (hmessage : i ∈ [Instr.kasumiF8, .snow3gUea2, .zucEea3] → ceilDiv (opLength s) 8 ≤ n)
    (hstream : ∀ c, i = .snow3gGenks c ∨ i = .zucGenks c → 4 * opNwords s ≤ n) :
    (storedBytes i s).length ≤ n := by
  have happly (ks : List Byte) :
      (applyBytes (opLength s) (messageBytes s) ks).length ≤ ceilDiv (opLength s) 8 :=
    (length_applyBytes_le _ _ _).trans_eq (messageBytes_length s)
  cases i
  case keccakP1600 => exact absurd rfl hi
  case kasumiF8 | snow3gUea2 | zucEea3 => exact (happly _).trans (hmessage (by simp))
  case snow3gGenks c => simpa [storedBytes, Nat.mul_comm] using hstream c (.inl rfl)
  case zucGenks c => simpa [storedBytes, Nat.mul_comm] using hstream c (.inr rfl)
  all_goals exact Nat.zero_le n

/-- What a command that takes a message stores and puts in RES, it makes of the message bytes and of
fields outside the buffers. -/
theorem performOf_withBuffers {i : Instr} {s : State} {m : Memory} {d : Nat}
    (hi : i ∈ [Instr.kasumiF8, .kasumiF9, .snow3gUea2, .snow3gUia2, .zucEea3, .zucEia3])
    (h : messageBytes (withBuffers s m d) = messageBytes s) :
    storedBytes i (withBuffers s m d) = storedBytes i s ∧
      (performOf i (withBuffers s m d)).res = (performOf i s).res := by
  have hbits : messageBits (withBuffers s m d) = messageBits s :=
    congrArg (fun bs => (bs.flatMap wordBits).take (opLength s)) h
  have happly (ks : List Byte) := congrArg (applyBytes (opLength s) · ks) h
  have hres (ks : List Byte) :
      (applyKeystream (withBuffers s m d) ks).res = (applyKeystream s ks).res :=
    (applyKeystream_res _ ks).trans (applyKeystream_res s ks).symm
  simp only [List.mem_cons, List.not_mem_nil, or_false] at hi
  obtain rfl | rfl | rfl | rfl | rfl | rfl := hi
  case inl | inr.inr.inl | inr.inr.inr.inr.inl => exact ⟨happly _, hres _⟩
  all_goals
    refine ⟨rfl, ?_⟩
    simp only [performOf, performKasumiF9, performSnow3gUia2, performZucEia3, hbits]
    rfl

/-- From DBUF's start on a command leaves every byte past the ones it may write. -/
theorem readByte_performOf_of_ge (i : Instr) (s : State) {a : Nat} (ha : dbufBase ≤ a)
    (hmessage : i ∈ [Instr.kasumiF8, .snow3gUea2, .zucEea3] → dbufBase + ceilDiv (opLength s) 8 ≤ a)
    (hstream : ∀ c, i = .snow3gGenks c ∨ i = .zucGenks c → dbufBase + 4 * opNwords s ≤ a) :
    readByte (performOf i s) a = readByte s a := by
  rw [readByte_performOf]
  refine readByte_writeBytes_of_out _ _ _ _ (.inr ?_)
  by_cases hi : i = .keccakP1600
  · rw [hi, storedBytes_keccakP1600_length]
    simp only [storeBase, stateBase, dbufBase] at ha ⊢
    omega
  · have := storedBytes_length_le_bound i s (n := a - dbufBase) hi
      (fun h => by have := hmessage h; omega) (fun c h => by have := hstream c h; omega)
    rw [storeBase_of_ne_keccakP1600 hi]
    omega

/-- Two runs of a command that takes a message, from states that share it, end alike. -/
theorem exec_withBuffers {i : Instr} {s t t' : State} {m : Memory} {d : Nat}
    (hi : i ∈ [Instr.kasumiF8, .kasumiF9, .snow3gUea2, .snow3gUia2, .zucEea3, .zucEia3])
    (h : exec i s = .next t) (h' : exec i (withBuffers s m d) = .next t')
    (hmessage : messageBytes (withBuffers s m d) = messageBytes s) :
    t'.res = t.res ∧ t'.status = t.status ∧
      ∀ a, readByte (withBuffers s m d) a = readByte s a → readByte t' a = readByte t a := by
  obtain ⟨hstored, hres⟩ := performOf_withBuffers hi hmessage
  rw [exec_eq] at h h'
  rw [check_withBuffers] at h'
  by_cases hc : check i s = .none
  · rw [hc, engineStep_none] at h h'
    cases h; cases h'
    refine ⟨hres, ?_, fun a ha => ?_⟩
    · rw [complete_status, complete_status, performOf_eq_with, performOf_eq_with i s]; rfl
    · change readByte (performOf i (withBuffers s m d)) a = readByte (performOf i s) a
      rw [readByte_performOf, readByte_performOf, hstored]
      exact readByte_writeBytes_congr _ _ ha
  · rw [engineStep_error hc] at h h'
    cases h; cases h'
    exact ⟨rfl, rfl, fun a ha => ha⟩

/-- Settles O43: a command stores no more bytes than its bound, the keystream reaches no bit past the
message, and the message bytes are all a command takes from DBUF. -/
theorem commandsStayInDbufBounds : Obligations.CommandsStayInDbufBounds := by
  refine ⟨fun i s t a h ha hmessage hstream => ?_, fun i s t j h hi hj => ?_,
    fun i s t t' m d hi h h' hsame => ?_⟩
  · exact exec_keeps (readByte · a) h (fun _ _ => rfl)
      (readByte_performOf_of_ge i s ha hmessage hstream)
  · refine exec_keeps (msgBit · j) h (fun _ _ => rfl) ?_
    obtain ⟨ks, hks⟩ := performOf_eq_applyKeystream hi s
    have hout : ¬ j < opLength s := Nat.not_lt.mpr hj
    simp [hks, msgBit_applyKeystream, hout]
  · obtain ⟨hres, hstatus, hbytes⟩ := exec_withBuffers hi h h' (messageBytes_withBuffers hsame)
    exact ⟨hres, hstatus, fun a hlo hhi => hbytes a (hsame a hlo hhi)⟩

end Sys2Proof.Machine
end

section
/-! SUPPORT. The command word by its fields (30_encoding.md R111, R113, R114): `decode` and Check against
the table of 60_exceptions.md R362 on the word itself. -/

namespace Sys2Proof.Machine

theorem opField_eq_op (w : Word) : opField w = Claims.op w := by
  simp [opField, Claims.op]

theorem ctxField_eq_ctx (w : Word) : ctxField w = Claims.ctx w := by
  simp [ctxField, Claims.ctx, Nat.shiftRight_eq_div_pow]

theorem rsvField_eq_rsv (w : Word) : rsvField w = Claims.rsv w := by
  have := w.isLt
  simp only [rsvField, Claims.rsv, BitVec.extractLsb'_toNat, Nat.shiftRight_eq_div_pow]
  omega

theorem decodePlain_eq_ok_iff {c : Nat} {i j : Instr} :
    decodePlain c i = .ok j ↔ c = 0 ∧ i = j := by
  unfold decodePlain; split <;> simp [*]

theorem decodePlain_eq_error_iff {c : Nat} {i : Instr} :
    (∃ e, decodePlain c i = .error e) ↔ c ≠ 0 := by
  unfold decodePlain; split <;> simp [*]

/-- OP and CTX of a word that decodes are its command's. -/
theorem decodeOp_eq_ok {op c : Nat} {i : Instr} (h : decodeOp op c = .ok i) :
    op = (encodeOp i).toNat ∧ c = i.slot?.getD 0 := by
  unfold decodeOp at h
  split at h
  case h_1 | h_4 | h_5 | h_8 | h_9 | h_12 | h_13 | h_14 | h_15 | h_16 | h_17 =>
    obtain ⟨rfl, rfl⟩ := decodePlain_eq_ok_iff.mp h
    exact ⟨rfl, rfl⟩
  case h_19 => cases h
  all_goals cases h; exact ⟨rfl, rfl⟩

/-- The pairs of OP and CTX that are no command (R114). -/
theorem decodeOp_eq_error_iff (op c : Nat) :
    (∃ e, decodeOp op c = .error e) ↔
      op ∉ Claims.definedOps ∨ (op ∉ Claims.ctxOps ∧ c ≠ 0) := by
  unfold decodeOp
  split
  case h_1 | h_4 | h_5 | h_8 | h_9 | h_12 | h_13 | h_14 | h_15 | h_16 | h_17 =>
    rw [decodePlain_eq_error_iff]
    simp [Claims.definedOps, Claims.ctxOps]
  case h_19 => simp_all [Claims.definedOps]
  all_goals simp [Claims.definedOps, Claims.ctxOps]

/-- A word is no command exactly when it is illegal (R114). -/
theorem decode_eq_error_iff (w : Word) : (∃ e, decode w = .error e) ↔ Claims.Illegal w := by
  rw [decode, opField_eq_op, ctxField_eq_ctx, rsvField_eq_rsv, Claims.Illegal]
  split
  case isTrue h => rw [decodeOp_eq_error_iff]; simp [h]
  case isFalse h => simp [h]

/-- A decoded word's fields are its command's. -/
theorem op_ctx_of_decode {w : Word} {i : Instr} (h : decode w = .ok i) :
    Claims.op w = (encodeOp i).toNat ∧ Claims.ctx w = i.slot?.getD 0 := by
  rw [decode, opField_eq_op, ctxField_eq_ctx] at h
  split at h
  · exact decodeOp_eq_ok h
  · cases h

/-! ## The rows of Check by OP (60_exceptions.md R362) -/

theorem slotMissing_iff (i : Instr) (s : State) :
    slotMissing i s = true ↔
      (encodeOp i).toNat ∈ Claims.ctxOps ∧ s.params.nCtx ≤ i.slot?.getD 0 := by
  cases i <;> simp [slotMissing, Instr.slot?, encodeOp, Claims.ctxOps]

theorem usesBearer_iff (i : Instr) :
    usesBearer i = true ↔ (encodeOp i).toNat ∈ Claims.bearerOps := by
  cases i <;> simp [usesBearer, encodeOp, Claims.bearerOps]

theorem usesDirection_iff (i : Instr) :
    usesDirection i = true ↔ (encodeOp i).toNat ∈ Claims.modeOps := by
  cases i <;> simp [usesDirection, encodeOp, Claims.modeOps]

theorem usesNwords_iff (i : Instr) :
    usesNwords i = true ↔ (encodeOp i).toNat = 0x12 ∨ (encodeOp i).toNat = 0x22 := by
  cases i <;> simp [usesNwords, encodeOp]

theorem recordMissing_iff (i : Instr) (s : State) :
    recordMissing i s = true ↔
      ((encodeOp i).toNat = 0x02 ∧ (s.slot (i.slot?.getD 0)).kas.valid = false) ∨
      ((encodeOp i).toNat = 0x12 ∧ (s.slot (i.slot?.getD 0)).snow.valid = false) ∨
      ((encodeOp i).toNat = 0x22 ∧ (s.slot (i.slot?.getD 0)).zuc.valid = false) := by
  cases i <;> simp [recordMissing, encodeOp, Instr.slot?]

/-- Check of a decoded word is the table of R362, read off the word. -/
theorem check_eq_of_decode {w : Word} {i : Instr} (h : decode w = .ok i) (s : State) :
    Claims.check w s = check i s := by
  have hlegal : ¬ Claims.Illegal w := fun hw => by
    obtain ⟨e, he⟩ := (decode_eq_error_iff w).mpr hw
    rw [h] at he; cases he
  obtain ⟨hop, hctx⟩ := op_ctx_of_decode h
  rw [Claims.check, if_neg hlegal, hop, hctx]
  simp only [check, usesLength, ite_or, slotMissing_iff, usesBearer_iff, usesDirection_iff,
    usesNwords_iff, recordMissing_iff]
  rfl

theorem checkWord_eq (w : Word) (s : State) : checkWord w s = Claims.check w s := by
  unfold checkWord
  cases hd : decode w with
  | error e => exact (if_pos ((decode_eq_error_iff w).mp ⟨e, hd⟩)).symm
  | ok i => exact (check_eq_of_decode hd s).symm

/-- A word that passes Check is a command that does. -/
theorem exists_decode_of_check {w : Word} {s : State} (h : Claims.check w s = .none) :
    ∃ i, decode w = .ok i ∧ check i s = .none := by
  cases hd : decode w with
  | error e =>
    rw [Claims.check, if_pos ((decode_eq_error_iff w).mp ⟨e, hd⟩)] at h
    cases h
  | ok i => exact ⟨i, rfl, check_eq_of_decode hd s ▸ h⟩

end Sys2Proof.Machine
end

section
/-! SUPPORT. The hosts' moves (60_exceptions.md R376): what a launch writes and owes, how the engine and
an access leave BUSY and the sequence in hand. -/

namespace Sys2Proof.Machine

/-! ## What a launch writes (10_state.md R44) -/

/-- The RES registers the command's rule names are among its results. -/
theorem resStretch_mem_resultsOf {w : Word} {i : Instr} (h : decode w = .ok i) {k : Nat}
    (hk : k < Claims.resCount w) (s : State) : resStretch k ∈ resultsOf i s := by
  rw [Claims.resCount, (op_ctx_of_decode h).1] at hk
  cases i
  case comp128V1 | comp128V2 | comp128V3 =>
    have hk : k < 3 := hk
    interval_cases k <;> simp [resultsOf]
  case kasumiEnc =>
    have hk : k < 2 := hk
    interval_cases k <;> simp [resultsOf]
  case kasumiF9 | snow3gUia2 | zucEia3 =>
    obtain rfl : k = 0 := Nat.lt_one_iff.mp hk
    simp [resultsOf]
  all_goals exact absurd hk (Nat.not_lt_zero k)

theorem resStretch_mem_launchResults {w : Word} {s : State} (h : Claims.check w s = .none) {k : Nat}
    (hk : k < Claims.resCount w) : resStretch k ∈ launchResults w s := by
  obtain ⟨i, hd, hc⟩ := exists_decode_of_check h
  simp only [launchResults, hd, hc, if_true, List.mem_filter]
  exact ⟨resStretch_mem_resultsOf hd hk s, decide_eq_true (by simp [resStretch])⟩

/-- A launch that writes a RES register overwrites all of RES (70_reset_and_hazards.md R405). -/
theorem overwrites_resStretch {w : Word} {s : State} (h : Claims.check w s = .none)
    (hw : 0 < Claims.resCount w) {k : Nat} (hk : k < 4) : overwrites w s (resStretch k) = true := by
  refine List.any_eq_true.mpr ⟨_, resStretch_mem_launchResults h hw, ?_⟩
  interval_cases k <;> decide

/-! ## BUSY -/

/-- After the engine's turn the block is idle. -/
theorem engineTurn_idle {s t : State} (h : engineTurn s = .next t) : t.status.busy = false := by
  obtain ⟨hb, rfl⟩ | ⟨-, -, rfl⟩ | ⟨-, i, -, hi⟩ := engineTurn_cases h
  · exact hb
  · rfl
  · obtain ⟨-, rfl⟩ | ⟨-, rfl⟩ := exec_cases hi <;> rfl

/-- Only a write of CMD makes an idle block busy. -/
theorem writeReg_idle {s : State} (h : s.status.busy = false) {r : Reg} (hr : r ≠ .cmd) (v : Word) :
    (writeReg s r v).status.busy = false := by
  cases r
  case cmd => exact absurd rfl hr
  case state | dbuf => simpa [writeReg] using h
  all_goals exact h

/-- The hosts' step of an access, where no bus error is recorded. -/
theorem hostedStep_access {h : Hosted} {n : Nat} {a : Access} {rs : List (BitVec 16)}
    {ms : List Move} (hm : h.moves = .access n a rs :: ms) (hf : h.block.faults = [])
    (hmay : mayMove n a h.seq h.block = true) :
    hostedStep h = .next
      { block := hostAccess a (setBus h.block [])
        seq := seqAfter n a rs h.block h.seq
        moves := ms } := by
  simp only [hostedStep, hm, hmay, if_true]
  rw [step_access (s := setBus h.block [.access a]) rfl hf]
  rfl

theorem hostedStep_access_next {h h' : Hosted} {n : Nat} {a : Access} {rs : List (BitVec 16)}
    {ms : List Move} (hm : h.moves = .access n a rs :: ms) (hf : h.block.faults = [])
    (hs : hostedStep h = .next h') :
    mayMove n a h.seq h.block = true ∧ h' =
      { block := hostAccess a (setBus h.block [])
        seq := seqAfter n a rs h.block h.seq
        moves := ms } := by
  cases hmay : mayMove n a h.seq h.block with
  | false => rw [hostedStep_of_not_mayMove hm hmay] at hs; cases hs
  | true =>
    rw [hostedStep_access hm hf hmay] at hs
    cases hs
    exact ⟨rfl, rfl⟩

/-- The relation between BUSY and the sequence in hand. -/
theorem Hosted.consistent_iff (h : Hosted) :
    h.consistent = true ↔
      (h.block.status.busy = true → ∃ q, h.seq = some q ∧ q.phase = .launched) := by
  unfold Hosted.consistent
  cases h.block.status.busy <;> cases h.seq <;> simp

/-- While the launched command is in flight, its sequence stays in hand. -/
theorem seqAfter_of_busy {s : State} (hb : s.status.busy = true) {q : Sequence}
    (hq : q.phase = .launched) (n : Nat) (a : Access) (rs : List (BitVec 16)) :
    seqAfter n a rs s (some q) = some q := by
  unfold seqAfter
  cases hr : accessTarget a s with
  | none => rfl
  | some r =>
    obtain ⟨-, -, -, hfree⟩ := (accessTarget_eq_some_iff a s r).mp hr
    obtain ⟨hk, -⟩ | ⟨hk, rfl⟩ := (allowedWhileBusy_iff _ _).mp (hfree hb)
    · simp [hk, Sequence.afterRead, hq, hb]
    · simp [hk, afterWrite, Reg.isOperand]

/-- An access makes an idle block busy only as a launch, which opens its host's sequence. -/
theorem seqAfter_of_launch {s : State} {a : Access} {es : List Event} (hb : s.status.busy = false)
    (ht : (hostAccess a (setBus s es)).status.busy = true) (n : Nat) (rs : List (BitVec 16))
    (q : Option Sequence) :
    seqAfter n a rs s q =
      some { host := n, phase := .launched, owed := owedOf q ++ launchOwes a.value s rs } := by
  obtain ⟨-, ha⟩ | ⟨r, hr, ha⟩ := hostAccess_cases a (setBus s es)
  · rw [ha, busError_status, setBus_status, hb] at ht
    cases ht
  · rw [ha] at ht
    by_cases hk : a.kind = .write32
    · by_cases hcmd : r = .cmd
      · simp [seqAfter, show accessTarget a s = some r from hr, hk, hcmd, afterWrite]
      · have := writeReg_idle (s := setBus s es) hb hcmd a.value
        rw [hk] at ht
        exact absurd (this.symm.trans ht) (by simp)
    · rw [performAccess_of_ne_write32 hk] at ht
      exact absurd (hb.symm.trans ht) (by simp)

/-- Every step keeps that a command in flight is its host's to wait for. -/
theorem hostedStep_keeps_consistent {h h' : Hosted} (hc : h.consistent = true)
    (hs : hostedStep h = .next h') : h'.consistent = true := by
  rw [Hosted.consistent_iff] at hc ⊢
  obtain ⟨-, t, ht, rfl⟩ | ⟨n, a, rs, ms, -, -, t, ht, rfl⟩ | ⟨ms, -, t, ht, rfl⟩ |
    ⟨ms, -, t, ht, rfl⟩ := hostedStep_cases hs <;> intro hbusy
  · exact absurd ((engineTurn_idle ht).symm.trans hbusy) (by simp)
  · obtain ⟨-, rfl⟩ := step_access_next rfl ht
    cases hb : h.block.status.busy with
    | true =>
      obtain ⟨q, hseq, hq⟩ := hc hb
      exact ⟨q, hseq ▸ seqAfter_of_busy hb hq n a rs, hq⟩
    | false => exact ⟨_, seqAfter_of_launch hb hbusy n rs h.seq, rfl⟩
  · exact absurd ((engineTurn_idle ht).symm.trans hbusy) (by simp)
  · cases ht; cases hbusy

end Sys2Proof.Machine
end

section
/-! A command in flight, and the hosts' moves: O54. -/

namespace Sys2Proof.Machine

/-- While its command is in flight a host has no move but the liberties. -/
theorem isLiberty_of_mayMove {h : Hosted} (hc : h.consistent = true)
    (hb : h.block.status.busy = true) {n : Nat} {a : Access} (hmay : mayMove n a h.seq h.block = true) :
    a.isLiberty h.block.params = true := by
  obtain ⟨q, hseq, hq⟩ := (Hosted.consistent_iff h).mp hc hb
  by_contra hl
  rw [hseq, mayMove_some_iff (Bool.eq_false_iff.mpr hl)] at hmay
  obtain ⟨-, hphase, -⟩ := hmay
  exact hphase hq

/-- A host that breaks a duty has no move: it is not the host in hand, or has not read BUSY = 0 since its
launch, or launches over a result still owed. -/
theorem mayMove_eq_false {n : Nat} {a : Access} {q : Sequence} {s : State}
    (hl : a.isLiberty s.params = false)
    (hbreak : q.host ≠ n ∨ q.phase = .launched ∨
      (a.isLaunch = true ∧ ∃ d ∈ q.owed, overwrites a.value s d = true)) :
    mayMove n a (some q) s = false := by
  rw [Bool.eq_false_iff, Ne, mayMove_some_iff hl]
  rintro ⟨hhost, hphase, hover⟩
  obtain h | h | h := hbreak
  · exact h hhost
  · exact hphase h
  · exact hover h

/-- A write of CMD while idle is accepted. -/
theorem hostAccess_launch_busy {a : Access} {s : State} (hk : a.kind = .write32)
    (ho : a.offset = 0x0004) (hidle : s.status.busy = false) :
    (hostAccess a s).status.busy = true := by
  obtain ⟨kind, offset, value⟩ := a
  obtain rfl : kind = .write32 := hk
  obtain rfl : offset = Reg.cmd.offset := ho
  rw [hostAccess_offset (r := .cmd) trivial rfl (by simp [hidle])]
  rfl

/-- A well-formed access of a mapped offset, a liberty if the block is busy, meets no bus error. -/
theorem hostAccess_no_busError {a : Access} {s : State} (hk : a.kind = .read32 ∨ a.kind = .write32)
    (halign : a.offset.toNat % 4 = 0) (hmapped : Reg.ofOffset s.params a.offset.toNat ≠ none)
    (hfree : s.status.busy = true → a.isLiberty s.params = true) :
    (hostAccess a s).resp ≠ .busError ∧ (hostAccess a s).faults = s.faults := by
  obtain ⟨hn, -⟩ | ⟨r, -, ha⟩ := hostAccess_cases a s
  · obtain hw | hw | hw | ⟨hb, hl⟩ := (accessTarget_eq_none_iff a s).mp hn
    · exact absurd ((AccessKind.isWord_iff _).mpr hk) (by simp [hw])
    · exact absurd halign hw
    · exact absurd hw hmapped
    · exact absurd (hfree hb) (by simp [hl])
  · rw [ha]
    exact ⟨performAccess_resp_ne_busError _ _ _ _, performAccess_faults _ _ _ _⟩

/-- Settles O54: the block alone, the relation every hosted step keeps, the moves of one host, and what a
launch overwrites. -/
theorem busyAccessesKeepOperands : Obligations.BusyAccessesKeepOperands := by
  refine ⟨fun s t a es hbus hb ht => ?busy, fun h h' => hostedStep_keeps_consistent,
    fun h n a rs ms hm hf => ⟨fun hl => ?liberty, fun hseq => ?free, fun hl q hseq hbreak => ?broken,
      fun hk ho hidle h' hs => ?launch, fun hc hk halign hmapped h' hs => ?answered⟩,
    fun w s => ⟨fun hc hw k hk => overwrites_resStretch hc hw hk, fun hc d => ?fails⟩⟩
  case busy =>
    obtain ⟨-, rfl⟩ := step_access_next hbus ht
    exact hostAccess_of_busy (s := setBus s es) hb a
  case liberty =>
    exact ⟨_, hostedStep_access hm hf (mayMove_of_isLiberty ((Access.isLiberty_iff _ _).mpr hl)), rfl⟩
  case free => exact ⟨_, hostedStep_access hm hf (by simp [mayMove, hseq]), rfl⟩
  case broken =>
    refine hostedStep_of_not_mayMove hm (hseq ▸ mayMove_eq_false ?_ ?_)
    · exact Bool.eq_false_iff.mpr fun h' => hl ((Access.isLiberty_iff _ _).mp h')
    · exact hbreak.imp_right (.imp_right fun ⟨hk, ho, hd⟩ => ⟨by simp [Access.isLaunch, hk, ho], hd⟩)
  case launch =>
    obtain ⟨-, rfl⟩ := hostedStep_access_next hm hf hs
    have hbusy := hostAccess_launch_busy (s := setBus h.block []) hk ho hidle
    refine ⟨_, seqAfter_of_launch hidle hbusy n rs h.seq, rfl, rfl,
      fun d hd => List.mem_append_left _ hd, fun hc k hk => ?_, fun hc => ?_⟩
    · exact List.mem_append_right _
        (launchResults_subset_launchOwes (resStretch_mem_launchResults hc hk))
    · rw [launchOwes_of_checkWord_ne (checkWord_eq a.value h.block ▸ hc), List.append_nil]
  case answered =>
    obtain ⟨hmay, rfl⟩ := hostedStep_access_next hm hf hs
    obtain ⟨hresp, hfaults⟩ := hostAccess_no_busError (s := setBus h.block []) hk halign hmapped
      (fun hb => isLiberty_of_mayMove hc hb hmay)
    exact ⟨hresp, hfaults.trans hf⟩
  case fails => exact overwrites_of_checkWord_ne (checkWord_eq w s ▸ hc)

end Sys2Proof.Machine
end

section
/-! SUPPORT. The command word put together from its fields (30_encoding.md R111): when a word decodes to a
command, said by the fields, by `encode`, and by the masks of R113. -/

namespace Sys2Proof.Machine

/-! ## A word and its three fields -/

theorem wellFormed_iff (i : Instr) : i.wellFormed = true ↔ i.slot?.getD 0 < 16 := by
  cases h : i.slot? <;> simp [Instr.wellFormed, h]

theorem ctx_lt_sixteen (w : Word) : Claims.ctx w < 16 := Nat.mod_lt _ (by decide)

/-- OP, CTX and RSV together are the whole word. -/
theorem toNat_eq_fields (w : Word) :
    w.toNat = 4096 * Claims.rsv w + 256 * Claims.ctx w + Claims.op w := by
  unfold Claims.rsv Claims.ctx Claims.op; omega

theorem eq_of_fields {v w : Word} (hrsv : Claims.rsv v = Claims.rsv w)
    (hctx : Claims.ctx v = Claims.ctx w) (hop : Claims.op v = Claims.op w) : v = w :=
  BitVec.eq_of_toNat_eq (by rw [toNat_eq_fields v, toNat_eq_fields w, hrsv, hctx, hop])

/-- The fields of a well-formed command's word. -/
theorem fields_encode {i : Instr} (h : i.wellFormed = true) :
    Claims.rsv (encode i) = 0 ∧ Claims.op (encode i) = (encodeOp i).toNat ∧
      Claims.ctx (encode i) = i.slot?.getD 0 := by
  rw [← rsvField_eq_rsv, ← opField_eq_op, ← ctxField_eq_ctx]
  exact Laws.WordFields.fields_of_parts _ ((wellFormed_iff i).mp h) _

/-! ## When a word decodes to a command -/

/-- The opcode map is read back from `encodeOp`. -/
theorem decodeOp_encodeOp (i : Instr) :
    decodeOp (encodeOp i).toNat (i.slot?.getD 0) = .ok i := by
  cases i <;> rfl

/-- A word decodes to `i` exactly when RSV is 0, OP is `i`'s and CTX is its slot (R111, R113, R114). -/
theorem decode_eq_ok_iff_fields {w : Word} {i : Instr} :
    decode w = .ok i ↔
      Claims.rsv w = 0 ∧ Claims.op w = (encodeOp i).toNat ∧ Claims.ctx w = i.slot?.getD 0 := by
  constructor
  · intro h
    refine ⟨?_, op_ctx_of_decode h⟩
    have hlegal : ¬ Claims.Illegal w := by
      rw [← decode_eq_error_iff, h]; simp
    exact not_ne_iff.mp fun hrsv => hlegal (.inr (.inl hrsv))
  · rintro ⟨hrsv, hop, hctx⟩
    rw [decode, rsvField_eq_rsv, if_pos hrsv, opField_eq_op, ctxField_eq_ctx, hop, hctx,
      decodeOp_encodeOp]

theorem wellFormed_of_decode {w : Word} {i : Instr} (h : decode w = .ok i) :
    i.wellFormed = true := by
  obtain ⟨-, -, hctx⟩ := decode_eq_ok_iff_fields.mp h
  exact (wellFormed_iff i).mpr (hctx ▸ ctx_lt_sixteen w)

theorem decode_encode {i : Instr} (h : i.wellFormed = true) : decode (encode i) = .ok i :=
  decode_eq_ok_iff_fields.mpr (fields_encode h)

theorem encode_of_decode {w : Word} {i : Instr} (h : decode w = .ok i) : encode i = w := by
  obtain ⟨hrsv, hop, hctx⟩ := decode_eq_ok_iff_fields.mp h
  obtain ⟨hrsv', hop', hctx'⟩ := fields_encode (wellFormed_of_decode h)
  exact eq_of_fields (hrsv'.trans hrsv.symm) (hctx'.trans hctx.symm) (hop'.trans hop.symm)

/-! ## The masks of R113 -/

/-- The mask of a "ctx" command keeps RSV and OP in their places and clears CTX. -/
theorem and_ctxMask_eq_append (w : Word) :
    w &&& 0xFFFFF0FF = w.extractLsb' 12 20 ++ (0 : BitVec 4) ++ w.extractLsb' 0 8 := by
  refine BitVec.eq_of_getLsbD_eq fun k hk => ?_
  rw [BitVec.getLsbD_and, BitVec.getLsbD_append, BitVec.getLsbD_append]
  interval_cases k <;> simp

theorem toNat_and_ctxMask (w : Word) :
    (w &&& 0xFFFFF0FF).toNat = 4096 * Claims.rsv w + Claims.op w := by
  have hrsv : (w.extractLsb' 12 20).toNat = Claims.rsv w := rsvField_eq_rsv w
  have hop : (w.extractLsb' 0 8).toNat = Claims.op w := opField_eq_op w
  rw [and_ctxMask_eq_append, BitVec.toNat_append, BitVec.toNat_append,
    ← Nat.shiftLeft_add_eq_or_of_lt (BitVec.isLt _), ← Nat.shiftLeft_add_eq_or_of_lt (BitVec.isLt _),
    hrsv, hop]
  simp only [Nat.shiftLeft_eq, show (0 : BitVec 4).toNat = 0 from rfl]
  omega

/-- R113 for a "ctx" command: the word under the mask is `0x00000000 | OP`. -/
theorem decode_eq_ok_iff_ctxMask {w : Word} {i : Instr} {c : Nat} (hi : i.slot? = some c) :
    decode w = .ok i ↔
      w &&& 0xFFFFF0FF = (encodeOp i).setWidth 32 ∧ c = Claims.ctx w := by
  have hmask : w &&& 0xFFFFF0FF = (encodeOp i).setWidth 32 ↔
      Claims.rsv w = 0 ∧ Claims.op w = (encodeOp i).toNat := by
    have := (encodeOp i).isLt
    have : Claims.op w < 256 := Nat.mod_lt _ (by decide)
    rw [← BitVec.toNat_inj, toNat_and_ctxMask, BitVec.toNat_setWidth_of_le (by decide)]
    omega
  rw [decode_eq_ok_iff_fields, hmask, hi, Option.getD_some, and_assoc, eq_comm (a := c)]

/-- R113 for a command without a slot: the whole word is `0x00000000 | OP`. -/
theorem decode_eq_ok_iff_word {w : Word} {i : Instr} (hi : i.slot? = none) :
    decode w = .ok i ↔ w = (encodeOp i).setWidth 32 := by
  have := (encodeOp i).isLt
  rw [decode_eq_ok_iff_fields, hi, Option.getD_none, ← BitVec.toNat_inj,
    BitVec.toNat_setWidth_of_le (by decide)]
  unfold Claims.rsv Claims.op Claims.ctx
  omega

end Sys2Proof.Machine
end

section
/-! The command word, the engine step of a decoded and of an illegal one, and acceptance: O1 to O7, O48. -/

namespace Sys2Proof.Machine

/-! ## Encoding -/

/-- Settles O1: the three fields of the encoded word are the command's, and they decide what `decode`
answers. -/
theorem decodeOfEncodeIsIdentity : Obligations.DecodeOfEncodeIsIdentity :=
  fun _ => decode_encode

/-- Settles O2: a legal word has its command's three fields, and so has the encoded word. -/
theorem encodeOfDecodeIsIdentity : Obligations.EncodeOfDecodeIsIdentity :=
  fun _ _ h => ⟨encode_of_decode h, wellFormed_of_decode h⟩

/-- Settles O3: the mask of a "ctx" command leaves RSV and OP, the full mask the whole word. -/
theorem commandsMatchTheirMask : Obligations.CommandsMatchTheirMask := by
  intro w
  have hword {i : Instr} := decode_eq_ok_iff_word (w := w) (i := i)
  have hctx {i : Instr} {c : Nat} := decode_eq_ok_iff_ctxMask (w := w) (i := i) (c := c)
  exact ⟨hword rfl, fun _ => hctx rfl, fun _ => hctx rfl, hword rfl, hword rfl, fun _ => hctx rfl,
    fun _ => hctx rfl, hword rfl, hword rfl, fun _ => hctx rfl, fun _ => hctx rfl, hword rfl,
    hword rfl, hword rfl, hword rfl, hword rfl, hword rfl, fun _ => hctx rfl⟩

/-- An illegal word in CMD ends the engine's turn with ILLEGAL (R114). -/
theorem engineTurn_of_illegal {s : State} (hb : s.status.busy = true) (h : Claims.Illegal s.cmd) :
    engineTurn s = .next (raiseError .illegal s) := by
  obtain ⟨e, he⟩ := (decode_eq_error_iff s.cmd).mpr h
  simp [engineTurn, hb, fetchCommand, he, illegalCommand]

/-- Settles O4: `decode` refuses the illegal words, and the engine step of one raises ILLEGAL. -/
theorem illegalWordsAreRefused : Obligations.IllegalWordsAreRefused :=
  ⟨decode_eq_error_iff, fun _ => engineTurn_of_illegal⟩

/-- Settles O5: the words are written out, so decoding them is computed. -/
theorem sampleWordsDecode : Obligations.SampleWordsDecode :=
  ⟨rfl, rfl, rfl, rfl, rfl, rfl, rfl, rfl, rfl, rfl⟩

/-! ## The step and the engine step -/

theorem step_of_bus_nil {s : State} (h : s.bus = []) : step s = engineTurn s := by
  simp [step, h]

theorem step_of_bus_engine {s : State} {es : List Event} (h : s.bus = .engine :: es) :
    step s = engineTurn (setBus s es) := by
  simp [step, h]

theorem engineTurn_of_decode {s : State} {i : Instr} (hb : s.status.busy = true)
    (h : decode s.cmd = .ok i) : engineTurn s = exec i s := by
  simp [engineTurn, hb, fetchCommand, h]

theorem engineTurn_of_idle {s : State} (hb : s.status.busy = false) : engineTurn s = .next s := by
  simp [engineTurn, hb, idleTurn]

/-- Settles O6: with nothing in store, or a turn of the engine next, the step is `engineTurn`, which runs
the decoded command or does nothing; the events in store decide neither BUSY nor CMD. -/
theorem stepRunsTheDecodedCommand : Obligations.StepRunsTheDecodedCommand := by
  refine ⟨fun s i hb hi => ⟨fun h => ?_, fun es h => ?_⟩, fun s hb => ⟨fun h => ?_, fun es h => ?_⟩,
    fun s => ⟨step_of_bus_nil, fun es => step_of_bus_engine⟩⟩
  · rw [step_of_bus_nil h, engineTurn_of_decode hb hi]
  · rw [step_of_bus_engine h, engineTurn_of_decode (s := setBus s es) hb hi, setBus]
  · rw [step_of_bus_nil h, engineTurn_of_idle hb]
  · rw [step_of_bus_engine h, engineTurn_of_idle (s := setBus s es) hb, setBus]

/-- A command's own effect keeps STATUS. -/
@[simp] theorem performOf_status (i : Instr) (s : State) : (performOf i s).status = s.status := by
  rw [performOf_eq_with]

/-- Settles O7: an engine step completes the command's effect, which keeps STATUS, or raises what Check
reported. -/
theorem engineStepAlwaysEnds : Obligations.EngineStepAlwaysEnds := by
  intro i s
  rw [exec_eq]
  by_cases hc : check i s = .none
  · refine ⟨complete (performOf i s), by rw [hc, engineStep_none], ?_⟩
    rw [if_pos hc, complete_status, performOf_status]
    rfl
  · refine ⟨raiseError (check i s) s, engineStep_error hc _ s, ?_⟩
    rw [if_neg hc]
    rfl

/-! ## Acceptance -/

/-- A write of CMD while the block is busy is a bus error (20_memory.md R86). -/
theorem hostAccess_cmd_of_busy {s : State} (hb : s.status.busy = true) (w : Word) :
    hostAccess { kind := .write32, offset := Reg.cmd.offset, value := w } s =
      busError { kind := .write32, offset := Reg.cmd.offset, value := w } s := by
  rw [hostAccess_eq_busError_iff, accessTarget_eq_none_iff]
  exact .inr (.inr (.inr ⟨hb, rfl⟩))

/-- Settles O48: while idle the write reaches CMD, which takes any word; the next turn of the engine finds
an illegal one. While busy the write reaches no register. -/
theorem commandAcceptance : Obligations.CommandAcceptance := by
  intro s w es hbus hf
  refine ⟨fun hidle => ?idle, fun hb => ?busy⟩
  case idle =>
    have hstep := step_write hbus hf (r := .cmd) trivial (by simp [hidle])
    refine ⟨hstep, fun hill t ht => ?_⟩
    obtain rfl := Host.Outcome.next.inj (hstep.symm.trans ht)
    exact engineTurn_of_illegal rfl hill
  case busy =>
    rw [step_access hbus hf, hostAccess_cmd_of_busy (s := setBus s es) hb]
    simp [busError, setBus, hf, Reg.offset]

end Sys2Proof.Machine
end

section
/-! SUPPORT. Bit strings (00_scope.md R13): the bits of a list of words or bytes by their places, the
message by its bits and what ApplyKeystream makes of them (20_memory.md R89, 40_kasumi.md R150), blocks
of 64 bits. -/

namespace Sys2Proof.Machine

/-! ## Lists by their entries -/

theorem getD_append_add {α : Type} {l : List α} {n : Nat} (hl : l.length = n) (l' : List α)
    (i : Nat) (d : α) : (l ++ l').getD (n + i) d = l'.getD i d := by
  rw [List.getD_append_right _ _ _ _ (by omega), hl, Nat.add_sub_cancel_left]

/-- Entry `i` of a list put together from pieces of length `w` is entry `i % w` of piece `i / w`, also
past the end where the piece of the default holds defaults. -/
theorem getD_flatMap {α β : Type} {f : α → List β} {w : Nat} (hw : 0 < w)
    (hf : ∀ x, (f x).length = w) {x₀ : α} {y₀ : β} (h₀ : ∀ k, (f x₀).getD k y₀ = y₀)
    (xs : List α) (i : Nat) :
    (xs.flatMap f).getD i y₀ = (f (xs.getD (i / w) x₀)).getD (i % w) y₀ := by
  induction xs generalizing i with
  | nil => simp only [List.flatMap_nil, List.getD_nil, h₀]
  | cons x xs ih =>
    rw [List.flatMap_cons]
    by_cases hi : i < w
    · rw [List.getD_append _ _ _ _ (by rwa [hf]), Nat.div_eq_of_lt hi, Nat.mod_eq_of_lt hi,
        List.getD_cons_zero]
    · obtain ⟨j, rfl⟩ := Nat.exists_eq_add_of_le (Nat.le_of_not_lt hi)
      rw [List.getD_append_right _ _ _ _ (by rw [hf]; omega), hf, Nat.add_sub_cancel_left, ih,
        Nat.add_div_left _ hw, Nat.add_mod_left, List.getD_cons_succ]

/-- The first entries of a list, by their places. -/
theorem take_eq_map_getD {α : Type} {xs : List α} {n : Nat} (h : n ≤ xs.length) (d : α) :
    xs.take n = (List.range n).map (xs.getD · d) := by
  refine List.ext_getElem (by simpa using h) fun i hi _ => ?_
  have hi : i < xs.length := by rw [List.length_take] at hi; omega
  rw [List.getElem_take, List.getElem_map, List.getElem_range, List.getD_eq_getElem _ d hi]

/-! ## The bits of words -/

theorem toNat_append_add {v w : Nat} (x : BitVec v) (y : BitVec w) :
    (x ++ y).toNat = x.toNat * 2 ^ w + y.toNat := by
  rw [BitVec.toNat_append, ← Nat.shiftLeft_add_eq_or_of_lt y.isLt, Nat.shiftLeft_eq]

@[simp] theorem wordBits_length {w : Nat} (v : BitVec w) : (wordBits v).length = w := by
  simp [wordBits]

theorem getD_wordBits {w : Nat} (v : BitVec w) {k : Nat} (hk : k < w) :
    (wordBits v).getD k false = v.getLsbD (w - 1 - k) := by
  rw [List.getD_eq_getElem _ _ (by simpa using hk)]
  simp [wordBits]

/-- The bits of a list of bytes, eight per byte, the most significant first. -/
theorem getD_flatMap_wordBits (bs : List Byte) (i : Nat) :
    (bs.flatMap wordBits).getD i false = (bs.getD (i / 8) 0).getLsbD (7 - i % 8) := by
  have hzero : wordBits (0 : Byte) = List.replicate 8 false := by decide
  rw [getD_flatMap (by decide) wordBits_length (x₀ := (0 : Byte))
    (fun k => by rw [hzero]; exact List.getElem?_getD_replicate_default_eq _ _ _),
    getD_wordBits _ (Nat.mod_lt _ (by decide))]

@[simp] theorem dwordBytes_length (v : DWord) : (dwordBytes v).length = 8 := rfl

theorem extractLsb'_extractLsb' {w : Nat} (v : BitVec w) {a b m n : Nat} (h : b + n ≤ m) :
    (v.extractLsb' a m).extractLsb' b n = v.extractLsb' (a + b) n := by
  refine BitVec.eq_of_getLsbD_eq fun j hj => ?_
  rw [BitVec.getLsbD_extractLsb', BitVec.getLsbD_extractLsb', BitVec.getLsbD_extractLsb',
    decide_eq_true (by omega : b + j < m), Bool.true_and, Nat.add_assoc]

/-- Byte `k` of a 64-bit block, byte 0 the most significant. -/
theorem getD_dwordBytes (v : DWord) {k : Nat} (hk : k < 8) :
    (dwordBytes v).getD k 0 = v.extractLsb' (56 - 8 * k) 8 := by
  interval_cases k <;> simp [dwordBytes, wordBytes, extractLsb'_extractLsb']

/-- The bits of the bytes of 64-bit blocks are the blocks' bits, the most significant first. -/
theorem getLsbD_getD_flatMap_dwordBytes (zs : List DWord) (i : Nat) :
    ((zs.flatMap dwordBytes).getD (i / 8) 0).getLsbD (7 - i % 8) =
      (zs.getD (i / 64) 0).getLsbD (63 - i % 64) := by
  have hzero : dwordBytes 0 = List.replicate 8 0 := by decide
  rw [getD_flatMap (by decide) dwordBytes_length (x₀ := 0)
    (fun k => by rw [hzero]; exact List.getElem?_getD_replicate_default_eq _ _ _),
    getD_dwordBytes _ (Nat.mod_lt _ (by decide)), Nat.div_div_eq_div_mul,
    BitVec.getLsbD_extractLsb', decide_eq_true (by omega), Bool.true_and]
  congr 1
  omega

/-! ## The message -/

@[simp] theorem messageBits_length (s : State) : (messageBits s).length = opLength s := by
  have hlen : ((messageBytes s).flatMap wordBits).length = 8 * ceilDiv (opLength s) 8 := by
    simp [List.length_flatMap, Nat.mul_comm]
  rw [messageBits, List.length_take, hlen, ceilDiv]
  omega

/-- The message is `MsgBit(0)` to `MsgBit(L−1)` (20_memory.md R89). -/
theorem messageBits_eq_message (s : State) : messageBits s = Claims.message s := by
  have hlen := messageBits_length s
  rw [messageBits, List.length_take] at hlen
  rw [messageBits, take_eq_map_getD (by omega) false]
  refine List.map_congr_left fun i hi => ?_
  have hi : i / 8 < (messageBytes s).length := by
    rw [messageBytes_length, lt_ceilDiv_iff]
    have := List.mem_range.mp hi
    omega
  rw [getD_flatMap_wordBits, List.getD_eq_getElem _ _ hi, msgBit]
  simp only [messageBytes, readBytes_getElem]

theorem readByte_applyKeystream_of_lt (s : State) (ks : List Byte) {a : Nat} (ha : a < dbufBase) :
    readByte (applyKeystream s ks) a = readByte s a :=
  readByte_writeBytes_of_out _ _ _ _ (.inl ha)

/-- ApplyKeystream changes message bits alone, each by its bit of the keystream (R150). -/
theorem applied_of_applyKeystream {s t : State} {ks : List Byte} {f : Nat → Bool}
    (ht : ∀ a, readByte t a = readByte (applyKeystream s ks) a)
    (hks : ∀ i, (ks.getD (i / 8) 0).getLsbD (7 - i % 8) = f i) : Claims.Applied f s t := by
  have hbit (i : Nat) : msgBit t i = (msgBit s i ^^ (decide (i < s.length.toNat) && f i)) := by
    rw [← hks, ← opLength, ← msgBit_applyKeystream, msgBit, ht, msgBit]
  refine ⟨fun i hi => ?_, fun i hi => ?_, fun a ha => ?_⟩
  · rw [hbit, decide_eq_true hi, Bool.true_and]
  · rw [hbit, decide_eq_false (Nat.not_lt.mpr hi), Bool.false_and, Bool.xor_false]
  · rw [ht, readByte_applyKeystream_of_lt _ _ ha]

/-! ## Blocks of 64 bits -/

/-- The first blocks of a bit string that fills them. -/
theorem bitBlocks_eq_map_block64 {n : Nat} {bs : List Bool} (h : 64 * n ≤ bs.length) :
    bitBlocks 64 n bs = (List.range n).map (Claims.block64 (bs.getD · false)) := by
  induction n generalizing bs with
  | zero => rfl
  | succ n ih =>
    rw [bitBlocks, List.range_succ_eq_map, List.map_cons, ih (by rw [List.length_drop]; omega),
      List.map_map]
    refine congrArg₂ List.cons ?_ (List.map_congr_left fun j _ => ?_)
    · rw [take_eq_map_getD (by omega) false, bitsToNat, List.foldl_map, Claims.block64]
      simp only [Nat.mul_zero, Nat.zero_add]
    · simp only [Claims.block64, Function.comp_apply, List.getD_eq_getElem?_getD,
        List.getElem?_drop, Nat.mul_succ, Nat.add_left_comm 64, Nat.add_assoc]

end Sys2Proof.Machine
end

section
/-! SUPPORT. Engine steps that end without error: commands that Check lets through (60_exceptions.md
R362), and what they leave (30_encoding.md R116, R117). -/

namespace Sys2Proof.Machine

theorem exec_of_check {i : Instr} {s : State} (h : check i s = .none) :
    exec i s = .next (complete (performOf i s)) := by
  rw [exec_eq, h, engineStep_none]

/-- Check looks at BEARER, DIRECTION and LENGTH of a command without a slot, where it uses them. -/
theorem check_eq_none_of_slotless {i : Instr} {s : State} (hslot : i.slot? = none)
    (hb : usesBearer i = true → s.bearer.toNat ≤ 31) (h : Claims.freshOk s) :
    check i s = .none := by
  obtain ⟨hdir, hlen⟩ := h
  have hrest : usesNwords i = false ∧ recordMissing i s = false := by
    cases i
    case kasumiKs | kasumiEnc | snow3gInit | snow3gGenks | zucInit | zucGenks | ctxClear =>
      cases hslot
    all_goals exact ⟨rfl, rfl⟩
  rw [check_eq_none_iff]
  exact ⟨by simp [slotMissing, hslot], hb, fun _ => hdir, fun _ => hlen, by simp [hrest.1],
    hrest.2⟩

theorem check_eq_none_of_frameOk {i : Instr} {s : State} (hslot : i.slot? = none)
    (h : Claims.frameOk s) : check i s = .none :=
  check_eq_none_of_slotless hslot (fun _ => h.1) h.2

/-- Check looks at the slot, and at NWORDS and the record where a command with a slot uses them. -/
theorem check_eq_none_of_slot {i : Instr} {c : Nat} {s : State} (hslot : i.slot? = some c)
    (hc : c < s.params.nCtx)
    (hn : usesNwords i = true → opNwords s ≤ s.params.dbufBytes / 4)
    (hrecord : recordMissing i s = false) : check i s = .none := by
  have hmode : usesBearer i = false ∧ usesDirection i = false := by
    cases i <;> cases hslot <;> exact ⟨rfl, rfl⟩
  rw [check_eq_none_iff, usesLength, hmode.1, hmode.2]
  exact ⟨by simp [slotMissing, hslot, hc], nofun, nofun, nofun, hn, hrecord⟩

theorem performOf_slot_of_slot {i : Instr} {c : Nat} {s : State} (h : i.slot? = some c)
    (hc : c < s.ctx.length) : (performOf i s).slot c = slotAfter i s c := by
  rw [State.slot, performOf_ctx_of_slot h, List.getD_eq_getElem _ _ (by simpa using hc),
    List.getElem_set_self]

end Sys2Proof.Machine
end

section
/-! The KASUMI block cipher (40_kasumi.md R144 to R148, R159): O17, O18. -/

namespace Sys2Proof.Machine

/-! ## Key words -/

/-- `K1 = KEY0[31:16]` to `K8 = KEY3[15:0]` (R144). -/
theorem kasumiK_bits (q : Quad) (n : Nat) : kasumiK q.bits n =
    [q.w0.extractLsb' 16 16, q.w0.extractLsb' 0 16, q.w1.extractLsb' 16 16,
     q.w1.extractLsb' 0 16, q.w2.extractLsb' 16 16, q.w2.extractLsb' 0 16,
     q.w3.extractLsb' 16 16, q.w3.extractLsb' 0 16].getD ((n - 1) % 8) 0 := by
  have hn : (n - 1) % 8 < 8 := Nat.mod_lt _ (by decide)
  rw [kasumiK, kasumiIndex, Quad.bits]
  generalize (n - 1) % 8 = m at hn
  interval_cases m <;>
    simp (disch := decide) only [BitVec.extractLsb'_append_eq_of_le,
      BitVec.extractLsb'_append_eq_of_add_le] <;> rfl

/-- The key schedule by round number. -/
theorem getD_keySchedule (key : BitVec 128) {i : Nat} (h1 : 1 ≤ i) (h8 : i ≤ 8) :
    let rk := keySchedule key
    [rk.r1, rk.r2, rk.r3, rk.r4, rk.r5, rk.r6, rk.r7, rk.r8].getD (i - 1) .zero =
      roundKeys key i := by
  interval_cases i <;> rfl

/-- Settles O17: a round's subkeys are made of the key words, and those stand in KEY0 to KEY3. -/
theorem kasumiKeyWordsFromRegisters : Obligations.KasumiKeyWordsFromRegisters := by
  intro q k c kk kc rk i h1 h8
  have hkk (n : Nat) : kasumiK q.bits n = kk n := kasumiK_bits q n
  have hkc (n : Nat) : kasumiK' q.bits n = kc n := congrArg (· ^^^ c.getD ((n - 1) % 8) 0) (hkk n)
  refine (getD_keySchedule q.bits h1 h8).trans ?_
  simp only [roundKeys, hkk, hkc]

/-! ## Invertibility (R159) -/

/-- A Feistel round is invertible, whatever its round function. -/
theorem feistelRound_bijective (f : Word → Word) :
    Function.Bijective (fun x : Word × Word => (x.2 ^^^ f x.1, x.1)) := by
  refine Function.bijective_iff_has_inverse.mpr ⟨fun y => (y.2, y.1 ^^^ f y.2), ?_, ?_⟩
  all_goals exact fun x => by simp

theorem oddRound_bijective (k : RoundKeys) : Function.Bijective (oddRound k) :=
  feistelRound_bijective fun l => kasumiFO k (kasumiFL k l)

theorem evenRound_bijective (k : RoundKeys) : Function.Bijective (evenRound k) :=
  feistelRound_bijective fun l => kasumiFL k (kasumiFO k l)

/-- A block and its two halves determine each other. -/
def halves : DWord ≃ Word × Word where
  toFun x := (x.extractLsb' 32 32, x.extractLsb' 0 32)
  invFun y := y.1 ++ y.2
  left_inv _ := BitVec.extractLsb'_append_extractLsb'
  right_inv _ := Prod.ext BitVec.extractLsb'_append_eq_left BitVec.extractLsb'_append_eq_right

/-- Block encryption splits the block, runs eight rounds and joins the halves: each is invertible. -/
theorem kasumi_bijective (rk : RoundKeySet) : Function.Bijective (kasumi rk) :=
  halves.symm.bijective.comp <| (evenRound_bijective rk.r8).comp <| (oddRound_bijective rk.r7).comp <|
    (evenRound_bijective rk.r6).comp <| (oddRound_bijective rk.r5).comp <|
    (evenRound_bijective rk.r4).comp <| (oddRound_bijective rk.r3).comp <|
    (evenRound_bijective rk.r2).comp <| (oddRound_bijective rk.r1).comp halves.bijective

/-- Settles O18: FI, FO, FL and the rounds are written so; a Feistel round is invertible whatever its
round function. -/
theorem kasumiIsInvertible : Obligations.KasumiIsInvertible :=
  ⟨fun _ _ => rfl, fun _ _ => ⟨rfl, rfl⟩, fun _ _ => rfl, kasumi_bijective⟩

end Sys2Proof.Machine
end

section
/-! The f8 keystream and the f9 string (40_kasumi.md R154, R156, R157): O16, O19. -/

namespace Sys2Proof.Machine

/-! ## f8 (R154, R156) -/

@[simp] theorem f8Blocks_length (rk : RoundKeySet) (a' : DWord) (b n : Nat) (prev : DWord) :
    (f8Blocks rk a' b n prev).length = b := by
  induction b generalizing n prev with
  | zero => rfl
  | succ b ih => simp [f8Blocks, ih]

/-- Each block from the block before it, the first from `prev` (R154). -/
theorem getD_f8Blocks (rk : RoundKeySet) (a' : DWord) {b k : Nat} (hk : k < b) (n : Nat)
    (prev : DWord) :
    (f8Blocks rk a' b n prev).getD k 0 = kasumi rk (a' ^^^ BitVec.ofNat 64 (n + k) ^^^
      (if k = 0 then prev else (f8Blocks rk a' b n prev).getD (k - 1) 0)) := by
  induction b generalizing k n prev with
  | zero => omega
  | succ b ih =>
    cases k with
    | zero => rfl
    | succ k =>
      rw [f8Blocks, List.getD_cons_succ, ih (by omega), show n + 1 + k = n + (k + 1) by omega]
      cases k <;> simp

/-- Fewer blocks are the beginning of more (R156). -/
theorem take_f8Blocks (rk : RoundKeySet) (a' : DWord) {b b' : Nat} (h : b ≤ b') (n : Nat)
    (prev : DWord) : (f8Blocks rk a' b' n prev).take b = f8Blocks rk a' b n prev := by
  induction b generalizing b' n prev with
  | zero => rfl
  | succ b ih =>
    obtain _ | b' := b'
    · omega
    · rw [f8Blocks, f8Blocks, List.take_succ_cons, ih (by omega)]

/-- COUNT stands in bits 63:32 of the f8 input block, BEARER in 31:27, DIRECTION in 26 (R154). -/
theorem f8Input_eq_ofNat (count : Word) (bearer : BitVec 5) (dir : Bool) :
    f8Input count bearer dir =
      BitVec.ofNat 64 (count.toNat * 2 ^ 32 + bearer.toNat * 2 ^ 27 + dir.toNat * 2 ^ 26) := by
  have hdir : (bit dir).toNat = dir.toNat := by cases dir <;> rfl
  have hcount := count.isLt
  have hbearer := bearer.isLt
  have hbit := dir.toNat_lt
  refine BitVec.eq_of_toNat_eq ?_
  simp only [f8Input, toNat_append_add, hdir, BitVec.ofNat_eq_ofNat, BitVec.toNat_ofNat]
  omega

/-- Settles O16: the blocks of `f8Blocks` by their recursion, begun at `n = 0` with the block 0. -/
theorem f8KeystreamRecurrence : Obligations.F8KeystreamRecurrence := by
  intro ck count bearer dir b a' ks
  have ha' : f8Modifier ck count bearer dir = a' := by
    rw [f8Modifier, f8Input_eq_ofNat]; rfl
  have hks (b : Nat) : f8Keystream ck count bearer dir b = f8Blocks (keySchedule ck) a' b 0 0 := by
    rw [f8Keystream, ha']
  refine ⟨?_, fun n hn => ?_, fun b' hb' => ?_⟩
  · exact f8Blocks_length _ _ _ _ _
  · simpa [ks, hks] using getD_f8Blocks (keySchedule ck) a' hn 0 0
  · rw [hks, take_f8Blocks _ _ hb', ← hks]

/-! ## f9 (R157) -/

/-- The blocks of the padded string are the fewest that hold COUNT, FRESH, the message, DIRECTION and
the 1. -/
theorem f9BlockCount_bounds (l : Nat) :
    l + 66 ≤ 64 * f9BlockCount l ∧ 64 * f9BlockCount l < l + 66 + 64 := by
  unfold f9BlockCount ceilDiv; omega

theorem f9String_length (count fresh : Word) (dir : Bool) (msg : List Bool) :
    (f9String count fresh dir msg).length = 64 * f9BlockCount msg.length := by
  have := f9BlockCount_bounds msg.length
  simp only [f9String, List.length_append, List.length_cons, List.length_nil, List.length_replicate,
    wordBits_length]
  omega

/-- The padded string, field after field. -/
theorem f9String_eq (count fresh : Word) (dir : Bool) (msg : List Bool) :
    ∃ z, f9String count fresh dir msg =
      wordBits count ++ (wordBits fresh ++ (msg ++ dir :: true :: List.replicate z false)) :=
  ⟨_, by simp only [f9String, List.append_assoc, List.cons_append, List.nil_append]; rfl⟩

/-- The f9 MAC with its chain over the numbers of the blocks (R157). -/
theorem f9Mac_eq (ik : BitVec 128) (count fresh : Word) (dir : Bool) (msg : List Bool) :
    f9Mac ik count fresh dir msg =
      (kasumi (keySchedule (ik ^^^ km9)) ((List.range (f9BlockCount msg.length)).foldl
        (fun x j => f9Link (keySchedule ik) x
          (Claims.block64 ((f9String count fresh dir msg).getD · false) j)) (0, 0)).2).extractLsb'
        32 32 := by
  rw [f9Mac, kasumiWith, f9Chain, bitBlocks_eq_map_block64 (f9String_length _ _ _ _).ge,
    List.foldl_map]

/-- Settles O19: the fields one after the other, each read at its place. -/
theorem f9StringFillsBlocks : Obligations.F9StringFillsBlocks := by
  intro count fresh dir msg
  obtain ⟨hge, hlt⟩ := f9BlockCount_bounds msg.length
  refine ⟨f9String_length count fresh dir msg, ?_, hlt, ?_⟩
  · unfold f9BlockCount at hge; omega
  obtain ⟨z, hz⟩ := f9String_eq count fresh dir msg
  have hmsg (i : Nat) : (f9String count fresh dir msg).getD (64 + i) false =
      (msg ++ dir :: true :: List.replicate z false).getD i false := by
    rw [hz, show 64 + i = 32 + (32 + i) by omega, getD_append_add (wordBits_length count),
      getD_append_add (wordBits_length fresh)]
  have htail (i : Nat) : (f9String count fresh dir msg).getD (64 + msg.length + i) false =
      (dir :: true :: List.replicate z false).getD i false := by
    rw [Nat.add_assoc, hmsg, getD_append_add rfl]
  refine ⟨fun i hi => ?count, fun i hi => ?fresh, fun i hi => ?message, htail 0, ?one,
    fun i hi => ?zeros⟩
  case count =>
    rw [hz, List.getD_append _ _ _ _ (by simpa using hi), getD_wordBits _ hi]
  case fresh =>
    rw [hz, getD_append_add (wordBits_length count), List.getD_append _ _ _ _ (by simpa using hi),
      getD_wordBits _ hi]
  case message => rw [hmsg, List.getD_append _ _ _ _ hi]
  case one => rw [show 65 + msg.length = 64 + msg.length + 1 by omega, htail]; rfl
  case zeros =>
    obtain ⟨j, rfl⟩ := Nat.exists_eq_add_of_le hi
    rw [show 66 + msg.length + j = 64 + msg.length + (j + 2) by omega, htail]
    exact List.getElem?_getD_replicate_default_eq _ _ _

end Sys2Proof.Machine
end

section
/-! The KASUMI commands (40_kasumi.md R152, R153, R156, R158): O12 to O15. -/

namespace Sys2Proof.Machine

/-- Settles O12: Check lets the command through, and its one effect is on its slot. -/
theorem kasumiKsResult : Obligations.KasumiKsResult := by
  intro c s hc hslots
  have hcheck := check_eq_none_of_slot (i := .kasumiKs c) rfl hc nofun rfl
  exact ⟨_, exec_of_check hcheck, rfl, performOf_slot_of_slot rfl (hslots ▸ hc),
    fun d hd => performOf_slot_of_ne (i := .kasumiKs c) rfl hd s⟩

/-- Settles O13: Check finds the slot and its record. -/
theorem kasumiEncResult : Obligations.KasumiEncResult := by
  intro c s hc hvalid
  have hrecord : recordMissing (.kasumiEnc c) s = false := by simp [recordMissing, hvalid]
  exact exec_of_check (check_eq_none_of_slot rfl hc nofun hrecord)

/-- Settles O14: the command applies the bytes of the f8 keystream, whose bits are its blocks' bits. -/
theorem kasumiF8Result : Obligations.KasumiF8Result := by
  intro s h
  refine ⟨_, exec_of_check (check_eq_none_of_frameOk rfl h), ?_,
    applied_of_applyKeystream (fun _ => rfl) fun i => getLsbD_getD_flatMap_dwordBytes _ i⟩
  exact congrArg complete (applyKeystream_eq_with_mem s _)

/-- Settles O15: the message is its bits, and the padded string's blocks are taken by their numbers. -/
theorem kasumiF9Result : Obligations.KasumiF9Result := by
  intro s h ps chain
  have hmac : f9Mac s.key.bits s.count s.fresh (opDir s) (messageBits s) =
      (kasumi (keySchedule (Claims.key s ^^^ km9)) chain.2).extractLsb' 32 32 := by
    rw [f9Mac_eq, messageBits_length, messageBits_eq_message]; rfl
  exact (exec_of_check (check_eq_none_of_slotless (i := .kasumiF9) rfl nofun h)).trans
    (congrArg (fun v => Host.Outcome.next (complete (setRes0 s v))) hmac)

end Sys2Proof.Machine
end

section
/-! What the message is to a MAC and to a confidentiality command (40_kasumi.md R151, R158): O44,
O45. -/

namespace Sys2Proof.Machine

/-- What a MAC command puts in RES, it makes of the message bits and of fields outside the buffers. -/
theorem performOf_res_withBuffers {i : Instr} {s : State} {m : Memory} {d : Nat}
    (hi : i ∈ [Instr.kasumiF9, .snow3gUia2, .zucEia3])
    (h : messageBits (withBuffers s m d) = messageBits s) :
    (performOf i (withBuffers s m d)).res = (performOf i s).res := by
  simp only [List.mem_cons, List.not_mem_nil, or_false] at hi
  obtain rfl | rfl | rfl := hi
  all_goals
    simp only [performOf, performKasumiF9, performSnow3gUia2, performZucEia3, h]
    rfl

/-- Settles O44: the message bits are all a MAC command takes from DBUF, and Check takes nothing. -/
theorem macsIgnoreBitsPastLength : Obligations.MacsIgnoreBitsPastLength := by
  intro i s t t' m d hi hsame h h'
  have hbits : messageBits (withBuffers s m d) = messageBits s := by
    rw [messageBits_eq_message, messageBits_eq_message]
    exact List.map_congr_left fun j hj => hsame j (List.mem_range.mp hj)
  have hres := performOf_res_withBuffers hi hbits
  have hcheck := check_withBuffers i s m d
  obtain ⟨hc, rfl⟩ | ⟨hc, rfl⟩ := exec_cases h
  · obtain ⟨-, rfl⟩ | ⟨hc', -⟩ := exec_cases h'
    · exact hres
    · exact absurd (hcheck.trans hc) hc'
  · obtain ⟨hc', -⟩ | ⟨-, rfl⟩ := exec_cases h'
    · exact absurd (hcheck.symm.trans hc') hc
    · rfl

/-- A keystream XORed onto a byte twice. -/
theorem xorLeading_xorLeading (n : Nat) (old ks : Byte) :
    xorLeading n (xorLeading n old ks) ks = old := by
  simp [xorLeading]

/-- The keystream a confidentiality command applies, as bytes. -/
def keystreamOf (i : Instr) (s : State) : List Byte :=
  match i with
  | .kasumiF8 => kasumiF8Bytes s
  | .snow3gUea2 => snow3gUea2Bytes s
  | .zucEea3 => zucEea3Bytes s
  | _ => []

theorem performOf_eq_applyKeystream_keystreamOf {i : Instr}
    (hi : i ∈ [Instr.kasumiF8, .snow3gUea2, .zucEea3]) (s : State) :
    performOf i s = applyKeystream s (keystreamOf i s) := by
  simp only [List.mem_cons, List.not_mem_nil, or_false] at hi
  obtain rfl | rfl | rfl := hi <;> rfl

/-- The keystream depends on neither the buffers nor STATUS. -/
theorem keystreamOf_with (i : Instr) (s : State) (m : Memory) (st : Status) :
    keystreamOf i { s with mem := m, status := st } = keystreamOf i s := by
  cases i <;> rfl

/-- ApplyKeystream twice, the second time on a state with the same LENGTH (R151). -/
theorem readByte_applyKeystream_twice {s t : State} {ks : List Byte} (hlen : t.length = s.length)
    (ht : ∀ a, readByte t a = readByte (applyKeystream s ks) a) (a : Nat) :
    readByte (applyKeystream t ks) a = readByte s a := by
  obtain ha | ha := Nat.lt_or_ge a dbufBase
  · rw [readByte_applyKeystream_of_lt _ _ ha, ht, readByte_applyKeystream_of_lt _ _ ha]
  · obtain ⟨q, rfl⟩ := Nat.exists_eq_add_of_le ha
    rw [readByte_applyKeystream, ht, readByte_applyKeystream, opLength, hlen, opLength,
      xorLeading_xorLeading]

/-- Settles O45: the second run finds the operands of the first and applies the same keystream. -/
theorem confidentialityTwiceRestores : Obligations.ConfidentialityTwiceRestores := by
  intro i s hi h
  have hslot : i.slot? = none := by
    simp only [List.mem_cons, List.not_mem_nil, or_false] at hi
    obtain rfl | rfl | rfl := hi <;> rfl
  have hrun (u : State) (hu : Claims.frameOk u) :
      exec i u = .next (complete (applyKeystream u (keystreamOf i u))) := by
    rw [exec_of_check (check_eq_none_of_frameOk hslot hu),
      performOf_eq_applyKeystream_keystreamOf hi]
  let ks := keystreamOf i s
  let t : State := { s with mem := (applyKeystream s ks).mem, status := Claims.ok s }
  have hfirst : exec i s = .next t :=
    (hrun s h).trans (congrArg (Host.Outcome.next ∘ complete) (applyKeystream_eq_with_mem s ks))
  have hsecond : exec i t = .next (complete (applyKeystream t ks)) := by
    rw [hrun t h, keystreamOf_with]
  exact ⟨t, _, hfirst, hsecond, readByte_applyKeystream_twice rfl fun _ =>
    readByte_congr (s := applyKeystream s ks) (t := t) rfl (applyKeystream_draw s ks).symm _⟩

end Sys2Proof.Machine
end

section
/-! The S-box tables (40_kasumi.md R141, R142, 41_snow3g.md R194, R195, 42_zuc.md R241, R242):
O38. -/

namespace Sys2Proof.Machine

/-! ## Bijections -/

/-- The values of a list as the bits of a number. -/
def valueMask (l : List Nat) : Nat := l.foldr (fun v m => 2 ^ v ||| m) 0

theorem testBit_valueMask (l : List Nat) (v : Nat) :
    (valueMask l).testBit v = decide (v ∈ l) := by
  induction l with
  | nil => simp [valueMask]
  | cons u l ih =>
    rw [valueMask, List.foldr_cons, ← valueMask, Nat.testBit_or, ih, Nat.testBit_two_pow]
    simp [eq_comm]

/-- An entry of a table in rows of 16 stands at an index of the table. -/
theorem exists_tableAt_eq {rows : List (List Nat)} (hrow : ∀ r ∈ rows, r.length = 16) {v : Nat}
    (hv : v ∈ rows.flatten) : ∃ i, i < 16 * rows.length ∧ tableAt rows i = v := by
  obtain ⟨r, hr, hv⟩ := List.mem_flatten.mp hv
  obtain ⟨i, hi, rfl⟩ := List.getElem_of_mem hr
  obtain ⟨j, hj, rfl⟩ := List.getElem_of_mem hv
  have hlen := hrow _ hr
  refine ⟨16 * i + j, by omega, ?_⟩
  rw [tableAt, show (16 * i + j) / 16 = i by omega, show (16 * i + j) % 16 = j by omega,
    List.getD_eq_getElem _ _ hi, List.getD_eq_getElem _ _ hj]

/-- A table of `2 ^ w` entries among which every value below `2 ^ w` stands is a bijection. -/
theorem tableAt_bijective {w : Nat} {rows : List (List Nat)} (hlen : 16 * rows.length = 2 ^ w)
    (hrow : ∀ r ∈ rows, r.length = 16) (hall : valueMask rows.flatten = 2 ^ 2 ^ w - 1) :
    Function.Bijective (fun x : BitVec w => BitVec.ofNat w (tableAt rows x.toNat)) := by
  refine Function.Surjective.bijective_of_finite fun y => ?_
  have hmem : y.toNat ∈ rows.flatten := by
    rw [← decide_eq_true_iff (p := y.toNat ∈ rows.flatten), ← testBit_valueMask, hall,
      Nat.testBit_two_pow_sub_one]
    exact decide_eq_true y.isLt
  obtain ⟨i, hi, hiy⟩ := exists_tableAt_eq hrow hmem
  refine ⟨BitVec.ofNat w i, ?_⟩
  simp [Nat.mod_eq_of_lt (hlen ▸ hi), hiy]

theorem sqBox_bijective : Function.Bijective sqBox :=
  tableAt_bijective (rows := sqRows) rfl (by decide) (by decide +kernel)

theorem srBox_bijective : Function.Bijective srBox :=
  tableAt_bijective (rows := srRows) rfl (by decide) (by decide +kernel)

theorem s7_bijective : Function.Bijective s7 :=
  tableAt_bijective (rows := s7Rows) rfl (by decide) (by decide +kernel)

theorem s9_bijective : Function.Bijective s9 :=
  tableAt_bijective (rows := s9RowsLow ++ s9RowsHigh) rfl (by decide) (by decide +kernel)

theorem zucS0_bijective : Function.Bijective zucS0 :=
  tableAt_bijective (rows := zucS0Rows) rfl (by decide) (by decide +kernel)

theorem zucS1_bijective : Function.Bijective zucS1 :=
  tableAt_bijective (rows := zucS1Rows) rfl (by decide) (by decide +kernel)

/-! ## GF(2^8) with modulus 0x169 (41_snow3g.md R195)

The Dickson polynomial is evaluated at all 256 bytes on numbers, where the kernel computes fast. -/

/-- What commutes with one application of `f` commutes with any number. -/
theorem map_iter {α β : Type} {f : α → α} {g : β → β} {h : α → β}
    (hfg : ∀ x, h (f x) = g (h x)) (n : Nat) (x : α) : h (iter f n x) = iter g n (h x) := by
  induction n with
  | zero => rfl
  | succ n ih => rw [iter, hfg, ih]; rfl

/-- Multiplication by `x` in GF(2^8). -/
def gfDouble (v : Byte) : Byte := if v.getLsbD 7 then (v <<< 1) ^^^ 0x69 else v <<< 1

/-- The product of two elements of GF(2^8). -/
def gfMul (x y : Byte) : Byte :=
  (List.range 8).foldl (fun acc i => if y.getLsbD i then acc ^^^ iter gfDouble i x else acc) 0

/-- `gfDouble` on numbers. -/
def gfDoubleNat (v : Nat) : Nat := v * 2 ^^^ v / 128 * 0x169

/-- `gfMul` on numbers, the eight terms written out. -/
def gfMulNat (x y : Nat) : Nat :=
  y % 2 * x ^^^ y / 2 % 2 * gfDoubleNat x ^^^ y / 4 % 2 * iter gfDoubleNat 2 x ^^^
    y / 8 % 2 * iter gfDoubleNat 3 x ^^^ y / 16 % 2 * iter gfDoubleNat 4 x ^^^
    y / 32 % 2 * iter gfDoubleNat 5 x ^^^ y / 64 % 2 * iter gfDoubleNat 6 x ^^^
    y / 128 % 2 * iter gfDoubleNat 7 x

theorem toNat_gfDouble : ∀ v : Byte, (gfDouble v).toNat = gfDoubleNat v.toNat := by
  decide +kernel

/-- One term of a product. -/
theorem toNat_ite_xor {w : Nat} (b : Bool) (x y : BitVec w) :
    (if b then x ^^^ y else x).toNat = x.toNat ^^^ b.toNat * y.toNat := by
  cases b <;> simp

theorem toNat_gfMul (x y : Byte) : (gfMul x y).toNat = gfMulNat x.toNat y.toNat := by
  have hbit (i : Nat) : (y.getLsbD i).toNat = y.toNat / 2 ^ i % 2 := Nat.toNat_testBit _ _
  simp only [gfMul, show List.range 8 = [0, 1, 2, 3, 4, 5, 6, 7] from rfl, List.foldl_cons,
    List.foldl_nil, toNat_ite_xor, hbit, map_iter (h := BitVec.toNat) toNat_gfDouble]
  simp [gfMulNat, iter]

theorem toNat_gfPow (x : Byte) (n : Nat) :
    (iter (gfMul x) n 1).toNat = iter (gfMulNat x.toNat) n 1 :=
  map_iter (h := BitVec.toNat) (toNat_gfMul x) n 1

/-- `g49(x) ⊕ 0x25` (R195). -/
def dickson49 (x : Byte) : Byte :=
  let pow : Nat → Byte := fun n => iter (gfMul x) n 1
  x ^^^ pow 9 ^^^ pow 13 ^^^ pow 15 ^^^ pow 33 ^^^ pow 41 ^^^ pow 45 ^^^ pow 47 ^^^ pow 49 ^^^ 0x25

/-- `dickson49` on numbers. -/
def dickson49Nat (x : Nat) : Nat :=
  let pow : Nat → Nat := fun n => iter (gfMulNat x) n 1
  x ^^^ pow 9 ^^^ pow 13 ^^^ pow 15 ^^^ pow 33 ^^^ pow 41 ^^^ pow 45 ^^^ pow 47 ^^^ pow 49 ^^^ 0x25

theorem toNat_dickson49 (x : Byte) : (dickson49 x).toNat = dickson49Nat x.toNat := by
  simp only [dickson49, dickson49Nat, BitVec.toNat_xor, toNat_gfPow]
  rfl

/-- The entries of the table SQ, computed. -/
theorem tableAt_sqRows : ∀ x < 256, tableAt sqRows x = dickson49Nat x := by
  decide +kernel

theorem sqBox_eq_dickson49 (x : Byte) : sqBox x = dickson49 x := by
  rw [sqBox, tableAt_sqRows _ x.isLt, ← toNat_dickson49, BitVec.ofNat_toNat, BitVec.setWidth_eq]

/-- Settles O38: the Dickson polynomial is computed at every byte, and in each table every value
stands. -/
theorem sboxTables : Obligations.SboxTables :=
  ⟨sqBox_eq_dickson49, sqBox_bijective, s7_bijective, s9_bijective, srBox_bijective,
    zucS0_bijective, zucS1_bijective⟩

end Sys2Proof.Machine
end

section
/-! SUPPORT. Keystream words: their bits as bytes, and in DBUF, big-endian (20_memory.md R91). -/

namespace Sys2Proof.Machine

/-- Byte `i` of the bytes of a list of words. -/
theorem getD_flatMap_wordBytes (zs : List Word) (i : Nat) :
    (zs.flatMap wordBytes).getD i 0 = (wordBytes (zs.getD (i / 4) 0)).getD (i % 4) 0 := by
  have hzero : wordBytes 0 = List.replicate 4 0 := by decide
  exact getD_flatMap (by decide) wordBytes_length
    (fun k => by rw [hzero]; exact List.getElem?_getD_replicate_default_eq _ _ _) zs i

/-- The bits of the bytes of words are the words' bits, the most significant first. -/
theorem getLsbD_getD_flatMap_wordBytes (zs : List Word) (i : Nat) :
    ((zs.flatMap wordBytes).getD (i / 8) 0).getLsbD (7 - i % 8) =
      (zs.getD (i / 32) 0).getLsbD (31 - i % 32) := by
  have hbyte (v : Word) {k : Nat} (hk : k < 4) :
      (wordBytes v).getD k 0 = v.extractLsb' (24 - 8 * k) 8 := by
    interval_cases k <;> rfl
  rw [getD_flatMap_wordBytes, hbyte _ (Nat.mod_lt _ (by decide)), Nat.div_div_eq_div_mul,
    BitVec.getLsbD_extractLsb', decide_eq_true (by omega), Bool.true_and]
  congr 1
  omega

/-- Stored keystream words are read back from DBUF, big-endian (R91). -/
theorem readWord_storeKeystream (s : State) {zs : List Word} {j : Nat} (hj : j < zs.length) :
    readWord (storeKeystream s zs) (dbufBase + 4 * j) = zs[j] := by
  have hbyte {k : Nat} (hk : k < 4) :
      readByte (storeKeystream s zs) (dbufBase + 4 * j + k) = (wordBytes zs[j]).getD k 0 := by
    have hin : 4 * j + k < (zs.flatMap wordBytes).length := by
      rw [length_flatMap_wordBytes]; omega
    rw [storeKeystream, Nat.add_assoc, readByte_writeBytes_of_in _ _ _ _ hin,
      ← List.getD_eq_getElem _ 0, getD_flatMap_wordBytes, show (4 * j + k) / 4 = j by omega,
      show (4 * j + k) % 4 = k by omega, List.getD_eq_getElem _ _ hj]
  have hfirst := hbyte (k := 0) (by decide)
  rw [Nat.add_zero] at hfirst
  rw [readWord, hfirst, hbyte (k := 1) (by decide), hbyte (k := 2) (by decide),
    hbyte (k := 3) (by decide)]
  exact wordOfBytes_extract zs[j]

theorem dbufWords_storeKeystream (s : State) (zs : List Word) :
    Claims.dbufWords (storeKeystream s zs) zs.length = zs := by
  refine List.ext_getElem (by simp [Claims.dbufWords]) fun j _ hj => ?_
  simpa [Claims.dbufWords, dbufBase] using readWord_storeKeystream s hj

theorem readByte_storeKeystream_of_out (s : State) (zs : List Word) {a : Nat}
    (h : a < dbufBase ∨ dbufBase + 4 * zs.length ≤ a) :
    readByte (storeKeystream s zs) a = readByte s a :=
  readByte_writeBytes_of_out _ _ _ _ (by rwa [length_flatMap_wordBytes])

/-- `DBUF` words are read from memory and the draw alone. -/
theorem dbufWords_congr {s t : State} (hm : t.mem = s.mem) (hd : t.draw = s.draw) (n : Nat) :
    Claims.dbufWords t n = Claims.dbufWords s n := by
  simp only [Claims.dbufWords, readWord, readByte_congr hm hd]

/-! ## The number of a word's bits (00_scope.md R13) -/

/-- The first bits of a word are its quotient by a power of two. -/
theorem bitsToNat_take_wordBits {w : Nat} (v : BitVec w) {n : Nat} (hn : n ≤ w) :
    bitsToNat ((wordBits v).take n) = v.toNat / 2 ^ (w - n) := by
  induction n with
  | zero => simp [bitsToNat, Nat.div_eq_of_lt v.isLt]
  | succ n ih =>
    have hbit : (v.getLsbD (w - 1 - n)).toNat = v.toNat / 2 ^ (w - (n + 1)) % 2 := by
      rw [show w - (n + 1) = w - 1 - n by omega]; exact Nat.toNat_testBit _ _
    have hhalf : v.toNat / 2 ^ (w - n) = v.toNat / 2 ^ (w - (n + 1)) / 2 := by
      rw [Nat.div_div_eq_div_mul, ← Nat.pow_succ, show (w - (n + 1)).succ = w - n by omega]
    rw [List.take_succ_eq_append_getElem (by simpa using hn), bitsToNat, List.foldl_concat,
      ← bitsToNat, ih (by omega), ← List.getD_eq_getElem _ false, getD_wordBits _ hn, hbit, hhalf]
    omega

theorem bitsToNat_wordBits {w : Nat} (v : BitVec w) : bitsToNat (wordBits v) = v.toNat := by
  have h := bitsToNat_take_wordBits v (Nat.le_refl w)
  rwa [List.take_of_length_le (by simp), Nat.sub_self, Nat.pow_zero, Nat.div_one] at h

end Sys2Proof.Machine
end

section
/-! The SNOW 3G generator (41_snow3g.md R190 to R202): its clocks as the statements write them out, its
keystream words by their number. -/

namespace Sys2Proof.Machine

/-! ## Clocks (R191 to R199) -/

theorem mulx_eq (c v : Byte) : mulx c v = Claims.mulx c v := by
  unfold mulx Claims.mulx; split <;> simp

theorem mulAlpha_eq (c : Byte) : mulAlpha c = Claims.alpha 23 245 48 239 c := by
  simp only [mulAlpha, mulxPow, funext (mulx_eq 0xA9), Claims.alpha]

theorem divAlpha_eq (c : Byte) : divAlpha c = Claims.alpha 16 39 6 64 c := by
  simp only [divAlpha, mulxPow, funext (mulx_eq 0xA9), Claims.alpha]

theorem snowS1_eq (w : Word) : snowS1 w = Claims.snowBox srBox 0x1B w := by
  simp only [snowS1, snowMix, mulx_eq]; rfl

theorem snowS2_eq (w : Word) : snowS2 w = Claims.snowBox sqBox 0x69 w := by
  simp only [snowS2, snowMix, mulx_eq]; rfl

/-- A clock in either mode, the FSM before the LFSR (R201). -/
theorem clockSnow_eq (init : Bool) (g : SnowGen) :
    clockSnowLfsr (if init then fsmWord g else 0) (clockFsm g) = Claims.snowStep init g := by
  simp only [clockSnowLfsr, clockFsm, snowFeedback, mulAlpha_eq, divAlpha_eq, snowS1_eq, snowS2_eq]
  rfl

theorem snowInitClock_eq : snowInitClock = Claims.snowStep true :=
  funext (clockSnow_eq true)

theorem snowClock_eq : snowClock = Claims.snowStep false :=
  funext (clockSnow_eq false)

/-! ## Loading (R200) -/

theorem snowLoad_eq (k iv : Quad) :
    snowLoad k iv =
      { lfsr := Claims.lfsr (fun i => [~~~k.w0, ~~~k.w1, ~~~k.w2, ~~~k.w3, k.w0, k.w1, k.w2, k.w3,
          ~~~k.w0, ~~~k.w1 ^^^ iv.w3, ~~~k.w2 ^^^ iv.w2, ~~~k.w3, k.w0 ^^^ iv.w1, k.w1, k.w2,
          k.w3 ^^^ iv.w0].getD i 0)
        r1 := 0, r2 := 0, r3 := 0 } := by
  have hone (v : Word) : v ^^^ 0xFFFFFFFF = ~~~v := BitVec.xor_allOnes
  simp only [snowLoad, hone]
  rfl

/-! ## Keystream words (R202) -/

theorem iter_succ_apply {α : Type} (f : α → α) (n : Nat) (x : α) :
    iter f (n + 1) x = iter f n (f x) := by
  induction n with
  | zero => rfl
  | succ n ih => rw [iter, ih]; rfl

theorem snowAfter_eq_iter (n : Nat) (g : SnowGen) : snowAfter n g = iter snowClock n g := by
  induction n generalizing g with
  | zero => rfl
  | succ n ih => rw [snowAfter, ih, iter_succ_apply]

/-- Keystream word `k + 1` is given after `k` clocks. -/
theorem snowWords_eq_map (n : Nat) (g : SnowGen) :
    snowWords n g = (List.range n).map (fun k => snowWord (iter snowClock k g)) := by
  induction n generalizing g with
  | zero => rfl
  | succ n ih =>
    rw [snowWords, ih, List.range_succ_eq_map, List.map_cons, List.map_map]
    simp only [Function.comp_def, ← iter_succ_apply]
    rfl

/-- The words of two stretches of the keystream, one after the other (R207). -/
theorem snowWords_add (m n : Nat) (g : SnowGen) :
    snowWords (m + n) g = snowWords m g ++ snowWords n (snowAfter m g) := by
  induction m generalizing g with
  | zero => simp [snowWords, snowAfter]
  | succ m ih => rw [Nat.succ_add, snowWords, ih]; rfl

theorem snowAfter_add (m n : Nat) (g : SnowGen) :
    snowAfter (m + n) g = snowAfter n (snowAfter m g) := by
  induction m generalizing g with
  | zero => rw [Nat.zero_add]; rfl
  | succ m ih => rw [Nat.succ_add, snowAfter, ih]; rfl

end Sys2Proof.Machine
end

section
/-! The SNOW 3G commands that use a context slot (41_snow3g.md R205 to R207): O20 to O22. -/

namespace Sys2Proof.Machine

/-- Settles O20: Check lets the command through and its one effect is on its slot; the loading and the
clocks are written out so. -/
theorem snow3gInitResult : Obligations.Snow3gInitResult := by
  refine ⟨fun c s hc hslots => ?_, fun k iv => ?_⟩
  · have hcheck := check_eq_none_of_slot (i := .snow3gInit c) rfl hc nofun rfl
    exact ⟨_, exec_of_check hcheck, rfl, performOf_slot_of_slot rfl (hslots ▸ hc),
      fun d hd => performOf_slot_of_ne (i := .snow3gInit c) rfl hd s⟩
  · intro cells
    rw [snowInit, snowLoad_eq, snowInitClock_eq, snowClock_eq]

/-- Settles O21: the words by their number; Check lets the command through, which stores the words and
leaves the advanced generator in its slot. -/
theorem snow3gGenksResult : Obligations.Snow3gGenksResult := by
  refine ⟨fun n g => ?keystream, fun c s hc hslots hn hvalid => ?command⟩
  case keystream =>
    rw [snowWords_eq_map, snowAfter_eq_iter, snowClock_eq]
    exact ⟨rfl, rfl⟩
  case command =>
    have hrecord : recordMissing (.snow3gGenks c) s = false := by simp [recordMissing, hvalid]
    have hcheck := check_eq_none_of_slot (i := .snow3gGenks c) rfl hc (fun _ => hn) hrecord
    let zs := snowWords s.nwords.toNat (s.slot c).snow.gen
    have hlen : zs.length = s.nwords.toNat := snowWords_length _ _
    have hwords := dbufWords_storeKeystream s zs
    rw [hlen] at hwords
    have hslot := performOf_slot_of_slot (i := .snow3gGenks c) (s := s) rfl (hslots ▸ hc)
    refine ⟨_, exec_of_check hcheck, ?frame,
      (dbufWords_congr (s := storeKeystream s zs) rfl rfl _).trans hwords,
      fun a ha => readByte_storeKeystream_of_out s zs (hlen.symm ▸ ha), ?slot,
      fun d hd => performOf_slot_of_ne (i := .snow3gGenks c) rfl hd s⟩
    case frame =>
      have hres : (performOf (.snow3gGenks c) s).res = s.res := storeKeystream_res s zs
      refine (congrArg complete (performOf_eq_with _ s)).trans ?_
      rw [hres]
      rfl
    case slot => rw [← hvalid]; exact hslot

/-- A command keeps the parameters and the number of slots, so a slot that exists goes on existing. -/
theorem exec_keeps_params_and_slot_count {i : Instr} {s t : State} (h : exec i s = .next t) :
    t.params = s.params ∧ t.ctx.length = s.ctx.length :=
  ⟨by rw [exec_eq_with h],
    exec_keeps (fun u => u.ctx.length) h (fun _ _ => rfl) (length_performOf_ctx i s)⟩

/-- Settles O22: the second command finds the record the first one left, and a stretch of the keystream
splits there. -/
theorem snow3gStreamingLaw : Obligations.Snow3gStreamingLaw := by
  intro c s n1 n2 hc hslots hvalid h1 h2
  obtain ⟨t, ht, -, hwords, -, hslot, -⟩ :=
    snow3gGenksResult.2 c { s with nwords := n1 } hc hslots h1 hvalid
  obtain ⟨(hparams : t.params = s.params), (hlength : t.ctx.length = s.ctx.length)⟩ :=
    exec_keeps_params_and_slot_count ht
  have hrecord : (t.slot c).snow =
      { valid := true, gen := snowAfter n1.toNat (s.slot c).snow.gen } :=
    congrArg Ctx.snow hslot
  obtain ⟨u, hu, -, hwords', -, hslot', -⟩ :=
    snow3gGenksResult.2 c { t with nwords := n2 } (hparams ▸ hc)
      (hlength.trans (hslots.trans (congrArg Params.nCtx hparams).symm)) (hparams ▸ h2)
      (congrArg SnowRecord.valid hrecord)
  have hgen : (State.slot { t with nwords := n2 } c).snow.gen =
    snowAfter n1.toNat (s.slot c).snow.gen := congrArg SnowRecord.gen hrecord
  refine ⟨t, u, ht, hu, ?_, ?_⟩
  · rw [hwords, hwords', hgen, snowWords_add]; rfl
  · rw [hslot', hgen, snowAfter_add]

end Sys2Proof.Machine
end

section
/-! The UEA2 and UIA2 modes (41_snow3g.md R208 to R211) and the MACs of the empty message (R210,
42_zuc.md R259): O23 to O25. -/

namespace Sys2Proof.Machine

/-! ## UEA2 (R208) -/

/-- `BEARER << 27 | DIR << 26` (R208), the fields side by side. -/
theorem append_append_zero_eq_or (bearer : BitVec 5) (dir : BitVec 1) :
    bearer ++ dir ++ (0 : BitVec 26) =
      (bearer.zeroExtend 32 <<< 27) ||| (dir.zeroExtend 32 <<< 26) := by
  revert bearer dir; decide

theorem bit_getLsbD_zero (v : Word) : bit (v.getLsbD 0) = v.extractLsb' 0 1 := by
  refine BitVec.eq_of_getLsbD_eq fun k hk => ?_
  obtain rfl : k = 0 := by omega
  rw [BitVec.getLsbD_extractLsb', Nat.add_zero]
  cases v.getLsbD 0 <;> rfl

theorem uea2Iv_eq (s : State) :
    uea2Iv s.count (opBearer s) (opDir s) =
      { w0 := Claims.bearerDir s, w1 := s.count, w2 := Claims.bearerDir s, w3 := s.count } := by
  have hframe : uea2Frame (opBearer s) (opDir s) = Claims.bearerDir s := by
    rw [uea2Frame, opDir, bit_getLsbD_zero, append_append_zero_eq_or]; rfl
  rw [uea2Iv, hframe]

/-- Settles O23: the command applies the bytes of the keystream words, whose bits are the
words' bits. -/
theorem snow3gUea2Result : Obligations.Snow3gUea2Result := by
  intro s h
  refine ⟨_, exec_of_check (check_eq_none_of_frameOk rfl h), ?_,
    applied_of_applyKeystream (fun _ => rfl) fun i => ?_⟩
  · exact congrArg complete (applyKeystream_eq_with_mem s _)
  · rw [snow3gUea2Bytes, getLsbD_getD_flatMap_wordBytes, uea2Gen, uea2Iv_eq]; rfl

/-! ## UIA2 (R209, R210) -/

theorem uia2Iv_eq (s : State) :
    uia2Iv s.count s.fresh (opDir s) =
      { w0 := s.fresh ^^^ ((s.direction.extractLsb' 0 1).zeroExtend 32 <<< 15)
        w1 := s.count ^^^ ((s.direction.extractLsb' 0 1).zeroExtend 32 <<< 31)
        w2 := s.fresh, w3 := s.count } := by
  rw [uia2Iv, opDir, bit_getLsbD_zero]

theorem mul64x_eq (v : DWord) :
    mul64x v = (v <<< 1) ^^^ (if v.getLsbD 63 then 0x1B else 0) := by
  unfold mul64x; split <;> simp

/-- MUL64 with its doubling written out (R209). -/
theorem mul64_eq (v p : DWord) :
    mul64 v p = (List.range 64).foldl (fun acc i =>
      if p.getLsbD i then
        acc ^^^ iter (fun v : DWord => (v <<< 1) ^^^ (if v.getLsbD 63 then 0x1B else 0)) i v
      else acc) 0 := by
  simp only [mul64, mul64xPow, funext mul64x_eq]

/-- Padding with 0 bits changes no bit read with default 0. -/
theorem getD_append_replicate_false (bs : List Bool) (n i : Nat) :
    (bs ++ List.replicate n false).getD i false = bs.getD i false := by
  obtain hi | hi := Nat.lt_or_ge i bs.length
  · rw [List.getD_append _ _ _ _ hi]
  · rw [List.getD_append_right _ _ _ _ hi, List.getD_eq_default _ _ hi]
    exact List.getElem?_getD_replicate_default_eq _ _ _

theorem getD_message (s : State) (i : Nat) :
    (Claims.message s).getD i false = (decide (i < s.length.toNat) && msgBit s i) := by
  obtain hi | hi := Nat.lt_or_ge i s.length.toNat
  · rw [List.getD_eq_getElem _ _ (by simpa [Claims.message] using hi)]
    simp [Claims.message, hi]
  · rw [List.getD_eq_default _ _ (by simpa [Claims.message] using hi)]
    simp [Nat.not_lt.mpr hi]

/-- The message blocks by their numbers, bits from LENGTH up 0 (R210). -/
theorem uia2Blocks_eq (s : State) :
    uia2Blocks (messageBits s) = (List.range (ceilDiv s.length.toNat 64)).map
      (Claims.block64 (fun i => decide (i < s.length.toNat) && msgBit s i)) := by
  rw [uia2Blocks, bitBlocks_eq_map_block64 (by simp; omega), messageBits_length]
  refine List.map_congr_left fun j _ => congrArg (Claims.block64 · j) (funext fun i => ?_)
  rw [getD_append_replicate_false, messageBits_eq_message, getD_message]

/-- Settles O24: the IV words, the blocks by their numbers and the products are those the
model computes. -/
theorem snow3gUia2Result : Obligations.Snow3gUia2Result := by
  intro s h dir zs z mulx mul block eval
  have hmul : mul64 = mul := funext fun v => funext (mul64_eq v)
  have hmac : uia2Mac (modeKey s.key) s.count s.fresh (opDir s) (messageBits s) =
      (mul (eval ^^^ BitVec.ofNat 64 s.length.toNat) (z 3 ++ z 4)).extractLsb' 32 32 ^^^ z 5 := by
    rw [uia2Mac, uia2Iv_eq, uia2Fold, uia2Eval, uia2Blocks_eq, List.foldl_map,
      messageBits_length, hmul]
    rfl
  exact (exec_of_check (check_eq_none_of_slotless (i := .snow3gUia2) rfl nofun h)).trans
    (congrArg (fun v => Host.Outcome.next (complete (setRes0 s v))) hmac)

/-! ## The empty message (R210, R259) -/

theorem messageBits_eq_nil {s : State} (h : s.length = 0) : messageBits s = [] := by
  rw [← List.length_eq_zero_iff, messageBits_length, opLength, h]; rfl

theorem mul64_zero_left (p : DWord) : mul64 0 p = 0 := by
  have hpow (i : Nat) : mul64xPow 0 i = 0 :=
    iter_keeps (p := (· = 0)) (fun x hx => by rw [hx]; decide) i rfl
  exact List.foldl_fixed' (fun i => by rw [hpow, BitVec.xor_self]; exact ite_self _) _

theorem uia2Fold_nil (z1 z2 z3 z4 z5 : Word) : uia2Fold z1 z2 z3 z4 z5 [] = z5 := by
  have heval : uia2Eval (z1 ++ z2) (uia2Blocks []) ^^^ BitVec.ofNat 64 0 = 0 := BitVec.xor_self
  rw [uia2Fold, List.length_nil, heval, mul64_zero_left]
  exact BitVec.zero_xor

/-- Word `j` of the keystream stands in the keystream string from bit `32 j` on (R259). -/
theorem eia3Key_flatMap (zs : List Word) {j : Nat} (hj : j < zs.length) :
    eia3Key (zs.flatMap wordBits) (32 * j) = zs[j] := by
  induction zs generalizing j with
  | nil => cases hj
  | cons z zs ih =>
    rw [List.flatMap_cons]
    cases j with
    | zero =>
      rw [eia3Key, Nat.mul_zero, List.drop_zero, List.take_left' (wordBits_length z),
        bitsToNat_wordBits, BitVec.ofNat_toNat, BitVec.setWidth_eq]
      rfl
    | succ j =>
      rw [Nat.mul_succ, Nat.add_comm, eia3Key, ← List.drop_drop,
        List.drop_left' (wordBits_length z)]
      exact ih (Nat.lt_of_succ_lt_succ hj)

theorem eia3Fold_nil (z0 z1 : Word) : eia3Fold ([z0, z1].flatMap wordBits) [] = z0 ^^^ z1 := by
  have h0 := eia3Key_flatMap [z0, z1] (j := 0) (by simp)
  have h1 := eia3Key_flatMap [z0, z1] (j := 1) (by simp)
  calc eia3Fold ([z0, z1].flatMap wordBits) []
    _ = 0 ^^^ eia3Key ([z0, z1].flatMap wordBits) (32 * 0) ^^^
          eia3Key ([z0, z1].flatMap wordBits) (32 * 1) := rfl
    _ = z0 ^^^ z1 := by rw [h0, h1]; simp

/-- Settles O25: no block enters UIA2's accumulator, which stays 0; EIA3's keystream string is two
words. -/
theorem emptyMessageMacs : Obligations.EmptyMessageMacs := by
  intro s hdir hlen
  have hfresh : Claims.freshOk s := ⟨hdir, by rw [hlen]; exact Nat.zero_le _⟩
  have hbits := messageBits_eq_nil hlen
  have huia2 := check_eq_none_of_slotless (i := .snow3gUia2) rfl nofun hfresh
  have heia3 (hb : s.bearer.toNat ≤ 31) :=
    check_eq_none_of_frameOk (i := .zucEia3) rfl ⟨hb, hfresh⟩
  refine ⟨⟨_, exec_of_check huia2, ?uia2⟩, fun hb => ⟨_, exec_of_check (heia3 hb), ?eia3⟩⟩
  case uia2 =>
    change uia2Mac (modeKey s.key) s.count s.fresh (opDir s) (messageBits s) = _
    rw [hbits, uia2Mac, uia2Fold_nil]
    rfl
  case eia3 =>
    change eia3Mac s.key.bytes s.count (opBearer s) (opDir s) (messageBits s) = _
    rw [hbits, eia3Mac]
    exact eia3Fold_nil _ _

end Sys2Proof.Machine
end

section
/-! SUPPORT. The ZUC generator (42_zuc.md R244 to R252): its clocks and its loading as the statements
write them out, its keystream words by their number. -/

namespace Sys2Proof.Machine

/-! ## Clocks (R244 to R249, R251) -/

/-- The feedback is reduced before the input is added, the written-out sum once (R249). -/
theorem zucCell_feedback_add (l : Lfsr 31) (u : Nat) :
    zucCell ((zucFeedback l + u) % zucP) = Claims.zucCell l u := by
  rw [zucFeedback, Nat.mod_add_mod]; rfl

theorem zucInitClock_eq : zucInitClock = Claims.zucStep true := by
  funext g
  have hinput : (zucF g >>> 1).toNat = (Claims.zucW g).toNat / 2 := BitVec.toNat_ushiftRight ..
  rw [zucInitClock, clockZucLfsrInit, zucCell_feedback_add, hinput]
  rfl

theorem zucClock_eq : zucClock = Claims.zucStep false := rfl

/-! ## Loading (R250) -/

theorem append_append_eq_ofNat (k : Byte) (d : BitVec 15) (iv : Byte) :
    k ++ d ++ iv = BitVec.ofNat 31 (k.toNat * 2 ^ 23 + d.toNat * 2 ^ 8 + iv.toNat) := by
  refine BitVec.eq_of_toNat_eq ?_
  rw [toNat_append_add, toNat_append_add, BitVec.toNat_ofNat]
  omega

theorem zucLoad_eq (k iv : List Byte) :
    zucLoad k iv =
      { lfsr := Claims.lfsr (fun i => BitVec.ofNat 31
          ((k.getD i 0).toNat * 2 ^ 23 + (zucD.getD i 0).toNat * 2 ^ 8 + (iv.getD i 0).toNat))
        r1 := 0, r2 := 0 } := by
  have hcell : zucLoadCell k iv = fun i => BitVec.ofNat 31
      ((k.getD i 0).toNat * 2 ^ 23 + (zucD.getD i 0).toNat * 2 ^ 8 + (iv.getD i 0).toNat) :=
    funext fun _ => append_append_eq_ofNat _ _ _
  rw [zucLoad, hcell]
  rfl

/-! ## Keystream words (R252) -/

theorem zucAfter_eq_iter (n : Nat) (g : ZucGen) : zucAfter n g = iter zucClock n g := by
  induction n generalizing g with
  | zero => rfl
  | succ n ih => rw [zucAfter, ih, iter_succ_apply]

/-- Keystream word `k + 1` is given after `k` clocks. -/
theorem zucWords_eq_map (n : Nat) (g : ZucGen) :
    zucWords n g = (List.range n).map (fun k => zucWord (iter zucClock k g)) := by
  induction n generalizing g with
  | zero => rfl
  | succ n ih =>
    rw [zucWords, ih, List.range_succ_eq_map, List.map_cons, List.map_map]
    simp only [Function.comp_def, ← iter_succ_apply]
    rfl

/-- The words of two stretches of the keystream, one after the other (R261). -/
theorem zucWords_add (m n : Nat) (g : ZucGen) :
    zucWords (m + n) g = zucWords m g ++ zucWords n (zucAfter m g) := by
  induction m generalizing g with
  | zero => rw [Nat.zero_add]; rfl
  | succ m ih => rw [Nat.succ_add, zucWords, ih]; rfl

theorem zucAfter_add (m n : Nat) (g : ZucGen) :
    zucAfter (m + n) g = zucAfter n (zucAfter m g) := by
  induction m generalizing g with
  | zero => rw [Nat.zero_add]; rfl
  | succ m ih => rw [Nat.succ_add, zucAfter, ih]; rfl

end Sys2Proof.Machine
end

section
/-! The ZUC commands that use a context slot (42_zuc.md R254 to R256, R261): O26 to O28. -/

namespace Sys2Proof.Machine

/-- Byte `4 i + j` of four registers is byte `j` of register `i` (R42, R43, R254). -/
theorem getD_quad_bytes (q : Quad) (i : Nat) {j : Nat} (hj : j < 4) :
    q.bytes.getD (4 * i + j) 0 = ([q.w0, q.w1, q.w2, q.w3].getD i 0).extractLsb' (24 - 8 * j) 8 := by
  have hbytes : q.bytes = [q.w0, q.w1, q.w2, q.w3].flatMap wordBytes := rfl
  rw [hbytes, getD_flatMap_wordBytes, show (4 * i + j) / 4 = i by omega,
    show (4 * i + j) % 4 = j by omega]
  interval_cases j <;> rfl

/-- Settles O26: Check lets the command through and its one effect is on its slot, where no cell is 0;
the register bytes, the loading and the clocks are written out so. -/
theorem zucInitResult : Obligations.ZucInitResult := by
  refine ⟨fun c s hc hslots => ?command,
    fun q => ⟨rfl, fun i _ _ hj => getD_quad_bytes q i hj⟩, fun k iv => ?clocks⟩
  case command =>
    have hcheck := check_eq_none_of_slot (i := .zucInit c) rfl hc nofun rfl
    have hslot := performOf_slot_of_slot (i := .zucInit c) (s := s) rfl (hslots ▸ hc)
    exact ⟨_, exec_of_check hcheck, rfl, hslot,
      (congrArg (·.zuc.gen.lfsr.nonzero) hslot).trans (zucInit_nonzero _ _),
      fun d hd => performOf_slot_of_ne (i := .zucInit c) rfl hd s⟩
  case clocks => rw [zucInit, zucLoad_eq, zucInitClock_eq, zucClock_eq]

/-- Settles O27: the words by their number; Check lets the command through, which stores the words and
leaves the advanced generator in its slot. -/
theorem zucGenksResult : Obligations.ZucGenksResult := by
  refine ⟨fun n g => ?keystream, fun c s hc hslots hn hvalid => ?command⟩
  case keystream =>
    rw [zucWords_eq_map, zucAfter_eq_iter, zucClock_eq]
    exact ⟨rfl, rfl⟩
  case command =>
    have hrecord : recordMissing (.zucGenks c) s = false := by simp [recordMissing, hvalid]
    have hcheck := check_eq_none_of_slot (i := .zucGenks c) rfl hc (fun _ => hn) hrecord
    let zs := zucWords s.nwords.toNat (s.slot c).zuc.gen
    have hlen : zs.length = s.nwords.toNat := zucWords_length _ _
    have hwords := dbufWords_storeKeystream s zs
    rw [hlen] at hwords
    have hslot := performOf_slot_of_slot (i := .zucGenks c) (s := s) rfl (hslots ▸ hc)
    refine ⟨_, exec_of_check hcheck, ?frame,
      (dbufWords_congr (s := storeKeystream s zs) rfl rfl _).trans hwords,
      fun a ha => readByte_storeKeystream_of_out s zs (hlen.symm ▸ ha), ?slot,
      fun d hd => performOf_slot_of_ne (i := .zucGenks c) rfl hd s⟩
    case frame =>
      have hres : (performOf (.zucGenks c) s).res = s.res := storeKeystream_res s zs
      refine (congrArg complete (performOf_eq_with _ s)).trans ?_
      rw [hres]
      rfl
    case slot => rw [← hvalid]; exact hslot

/-- Settles O28: the second command finds the record the first one left, and a stretch of the keystream
splits there. -/
theorem zucStreamingLaw : Obligations.ZucStreamingLaw := by
  intro c s n1 n2 hc hslots hvalid h1 h2
  obtain ⟨t, ht, -, hwords, -, hslot, -⟩ :=
    zucGenksResult.2 c { s with nwords := n1 } hc hslots h1 hvalid
  obtain ⟨(hparams : t.params = s.params), (hlength : t.ctx.length = s.ctx.length)⟩ :=
    exec_keeps_params_and_slot_count ht
  have hrecord : (t.slot c).zuc =
      { valid := true, gen := zucAfter n1.toNat (s.slot c).zuc.gen } :=
    congrArg Ctx.zuc hslot
  obtain ⟨u, hu, -, hwords', -, hslot', -⟩ :=
    zucGenksResult.2 c { t with nwords := n2 } (hparams ▸ hc)
      (hlength.trans (hslots.trans (congrArg Params.nCtx hparams).symm)) (hparams ▸ h2)
      (congrArg ZucRecord.valid hrecord)
  have hgen : (State.slot { t with nwords := n2 } c).zuc.gen =
    zucAfter n1.toNat (s.slot c).zuc.gen := congrArg ZucRecord.gen hrecord
  refine ⟨t, u, ht, hu, ?_, ?_⟩
  · rw [hwords, hwords', hgen, zucWords_add]; rfl
  · rw [hslot', hgen, zucAfter_add]

end Sys2Proof.Machine
end

section
/-! The EEA3 and EIA3 modes (42_zuc.md R257 to R260): O29, O30. -/

namespace Sys2Proof.Machine

/-! ## EEA3 (R257, R258) -/

/-- `BEARER || DIR || 0` as a byte (R257), the fields by their places. -/
theorem bearer_dir_byte_eq_or (bearer : BitVec 5) (dir : BitVec 1) :
    bearer ++ dir ++ (0 : BitVec 2) =
      ((bearer.zeroExtend 8 <<< 3) ||| (dir.zeroExtend 8 <<< 2) : Byte) := by
  revert bearer dir; decide

/-- Settles O29: the command applies the bytes of the keystream words, whose bits are the
words' bits. -/
theorem zucEea3Result : Obligations.ZucEea3Result := by
  intro s h
  refine ⟨_, exec_of_check (check_eq_none_of_frameOk rfl h),
    congrArg complete (applyKeystream_eq_with_mem s _), ?_⟩
  intro iv4 half
  have hiv : eea3Iv s.count (opBearer s) (opDir s) = half ++ half := by
    rw [eea3Iv, opDir, bit_getLsbD_zero, bearer_dir_byte_eq_or]; rfl
  refine applied_of_applyKeystream (fun _ => rfl) fun i => ?_
  rw [zucEea3Bytes, getLsbD_getD_flatMap_wordBytes, eea3Gen, hiv]
  rfl

/-! ## EIA3 (R259, R260) -/

theorem bearer_byte_eq_shiftLeft (bearer : BitVec 5) :
    bearer ++ (0 : BitVec 3) = (bearer.zeroExtend 8 <<< 3 : Byte) := by
  revert bearer; decide

theorem dir_byte_eq_shiftLeft (dir : BitVec 1) :
    dir ++ (0 : BitVec 7) = (dir.zeroExtend 8 <<< 7 : Byte) := by
  revert dir; decide

/-- The EIA3 IV bytes (R259), byte 8 and byte 14 with DIRECTION in their top bit. -/
theorem eia3Iv_eq (s : State) :
    eia3Iv s.count (opBearer s) (opDir s) =
      let iv4 : Byte := (s.bearer.extractLsb' 0 5).zeroExtend 8 <<< 3
      let d : Byte := (s.direction.extractLsb' 0 1).zeroExtend 8 <<< 7
      let c := wordBytes s.count
      c ++ [iv4, 0, 0, 0, c.getD 0 0 ^^^ d] ++ c.drop 1 ++ [iv4, 0, d, 0] := by
  have hzero (d : Byte) : 0 ^^^ d = d := BitVec.zero_xor
  rw [eia3Iv, opDir, bit_getLsbD_zero, dir_byte_eq_shiftLeft, bearer_byte_eq_shiftLeft, hzero]
  rfl

/-- The bits of a list of keystream words, the most significant of each first. -/
theorem getD_flatMap_wordBits_word (zs : List Word) (i : Nat) :
    (zs.flatMap wordBits).getD i false = (zs.getD (i / 32) 0).getLsbD (31 - i % 32) := by
  have hzero : wordBits (0 : Word) = List.replicate 32 false := by decide
  rw [getD_flatMap (by decide) wordBits_length (x₀ := (0 : Word))
    (fun k => by rw [hzero]; exact List.getElem?_getD_replicate_default_eq _ _ _),
    getD_wordBits _ (Nat.mod_lt _ (by decide))]

/-- `k(i)` bit by bit, where the keystream string reaches to bit `i + 31` (R259). -/
theorem eia3Key_eq {z : List Bool} {i : Nat} (h : i + 32 ≤ z.length) :
    eia3Key z i = BitVec.ofNat 32
      ((List.range 32).foldl (fun v j => 2 * v + (z.getD (i + j) false).toNat) 0) := by
  rw [eia3Key, take_eq_map_getD (by rw [List.length_drop]; omega) false, bitsToNat, List.foldl_map]
  simp only [List.getD_eq_getElem?_getD, List.getElem?_drop]

/-- The accumulation over consecutive message bits, by their places. -/
theorem eia3Acc_map_range' (z : List Bool) (f : Nat → Bool) (i n : Nat) (t : Word) :
    eia3Acc z i ((List.range' i n).map f) t =
      (List.range' i n).foldl (fun t j => if f j then t ^^^ eia3Key z j else t) t := by
  induction n generalizing i t with
  | zero => rfl
  | succ n ih => rw [List.range'_succ]; exact ih _ _

/-- The MAC of message bits given by their places, with a window function that agrees with `k` wherever
the keystream string holds the whole window (R259). -/
theorem eia3Fold_map_range {z : List Bool} (f : Nat → Bool) {l : Nat} {k : Nat → Word}
    (hz : z.length = 32 * eia3WordCount l) (hk : ∀ i, i + 32 ≤ z.length → eia3Key z i = k i) :
    eia3Fold z ((List.range l).map f) =
      (List.range l).foldl (fun t i => if f i then t ^^^ k i else t) 0 ^^^ k l ^^^
        k (32 * (eia3WordCount l - 1)) := by
  obtain ⟨hroom, hlast⟩ : l + 64 ≤ z.length ∧ 32 * (eia3WordCount l - 1) + 32 = z.length := by
    rw [hz, eia3WordCount, ceilDiv]; omega
  have hacc : eia3Acc z 0 ((List.range l).map f) 0 =
      (List.range l).foldl (fun t i => if f i then t ^^^ k i else t) 0 := by
    rw [List.range_eq_range', eia3Acc_map_range']
    refine List.foldl_ext _ _ _ fun t i hi => ?_
    rw [← List.range_eq_range', List.mem_range] at hi
    rw [hk i (by omega)]
  rw [eia3Fold, List.length_map, List.length_range, hacc, hk _ (by omega), hk _ hlast.le]

/-- Settles O30: the IV bytes, the message bits and the keystream windows by their places are those the
model computes. -/
theorem zucEia3Result : Obligations.ZucEia3Result := by
  intro s h iv4 d c0 c1 c2 c3 n zs zbit k
  have hlen : (zs.flatMap wordBits).length = 32 * n := by
    simp [List.length_flatMap, zs, Nat.mul_comm]
  have hwindow (i : Nat) (hi : i + 32 ≤ (zs.flatMap wordBits).length) :
      eia3Key (zs.flatMap wordBits) i = k i := by
    rw [eia3Key_eq hi]
    simp only [getD_flatMap_wordBits_word]
    rfl
  have hmac : eia3Mac s.key.bytes s.count (opBearer s) (opDir s) (messageBits s) =
      (List.range s.length.toNat).foldl (fun t i => if msgBit s i then t ^^^ k i else t) 0 ^^^
        k s.length.toNat ^^^ k (32 * (n - 1)) := by
    rw [eia3Mac, messageBits_length, messageBits_eq_message, eia3Iv_eq]
    exact eia3Fold_map_range (msgBit s) hlen hwindow
  exact (exec_of_check (check_eq_none_of_frameOk (i := .zucEia3) rfl h)).trans
    (congrArg (fun v => Host.Outcome.next (complete (setRes0 s v))) hmac)

end Sys2Proof.Machine
end

section
/-! Arithmetic in GF(2^31 - 1) (42_zuc.md R248, R249): O31. -/

namespace Sys2Proof.Machine

/-! ## Rotation and end-around carry (R248) -/

theorem toNat_rotateLeft_eq_add (a : BitVec 31) {k : Nat} (hk : k ≤ 30) :
    (a.rotateLeft k).toNat = a.toNat % 2 ^ (31 - k) * 2 ^ k + a.toNat / 2 ^ (31 - k) := by
  have hpow : 2 ^ (31 - k) * 2 ^ k = 2 ^ 31 := by rw [← Nat.pow_add]; congr 1; omega
  have hhigh : a.toNat / 2 ^ (31 - k) < 2 ^ k :=
    Nat.div_lt_of_lt_mul (by rw [hpow]; exact a.isLt)
  rw [BitVec.toNat_rotateLeft, Nat.mod_eq_of_lt (by omega : k < 31), Nat.shiftLeft_eq, ← hpow,
    Nat.mul_mod_mul_right, Nat.shiftRight_eq_div_pow, ← Nat.shiftLeft_eq,
    Nat.shiftLeft_add_eq_or_of_lt hhigh]

/-- Multiplying by `2^k` moves the top `k` bits past the width, where each counts `p` too much. -/
theorem two_pow_mul_toNat_eq (a : BitVec 31) {k : Nat} (hk : k ≤ 30) :
    2 ^ k * a.toNat = (a.rotateLeft k).toNat + zucP * (a.toNat / 2 ^ (31 - k)) := by
  have hpow : 2 ^ k * 2 ^ (31 - k) = zucP + 1 := by
    rw [← Nat.pow_add, Nat.add_sub_of_le (by omega)]; rfl
  calc 2 ^ k * a.toNat
    _ = 2 ^ k * (2 ^ (31 - k) * (a.toNat / 2 ^ (31 - k)) + a.toNat % 2 ^ (31 - k)) := by
      rw [Nat.div_add_mod]
    _ = (2 ^ k * 2 ^ (31 - k)) * (a.toNat / 2 ^ (31 - k)) + a.toNat % 2 ^ (31 - k) * 2 ^ k := by
      ring
    _ = (a.rotateLeft k).toNat + zucP * (a.toNat / 2 ^ (31 - k)) := by
      rw [hpow, toNat_rotateLeft_eq_add a hk]; ring

theorem rotateLeft_modEq (a : BitVec 31) {k : Nat} (hk : k ≤ 30) :
    (a.rotateLeft k).toNat ≡ 2 ^ k * a.toNat [MOD zucP] := by
  rw [two_pow_mul_toNat_eq a hk]
  exact (Nat.add_mul_mod_self_left _ _ _).symm

theorem toNat_ne_zero {a : BitVec 31} (ha : a ≠ 0) : a.toNat ≠ 0 :=
  fun h => ha (BitVec.eq_of_toNat_eq h)

theorem rotateLeft_ne_zero {a : BitVec 31} (ha : a ≠ 0) {k : Nat} (hk : k ≤ 30) :
    a.rotateLeft k ≠ 0 := by
  intro h
  have hsum : 0 = a.toNat % 2 ^ (31 - k) * 2 ^ k + a.toNat / 2 ^ (31 - k) :=
    (congrArg BitVec.toNat h).symm.trans (toNat_rotateLeft_eq_add a hk)
  obtain ⟨hlow, hhigh⟩ := Nat.add_eq_zero_iff.mp hsum.symm
  have hlow : a.toNat % 2 ^ (31 - k) = 0 :=
    (Nat.mul_eq_zero.mp hlow).resolve_right (Nat.two_pow_pos k).ne'
  exact toNat_ne_zero ha (by rw [← Nat.div_add_mod a.toNat (2 ^ (31 - k)), hhigh, hlow, Nat.mul_zero])

theorem toNat_addCarry (a b : BitVec 31) :
    (Claims.addCarry a b).toNat =
      if 2 ^ 31 ≤ a.toNat + b.toNat then a.toNat + b.toNat - zucP else a.toNat + b.toNat := by
  have ha := a.isLt
  have hb := b.isLt
  unfold Claims.addCarry zucP
  split <;> rw [BitVec.toNat_ofNat] <;> omega

theorem addCarry_modEq (a b : BitVec 31) :
    (Claims.addCarry a b).toNat ≡ a.toNat + b.toNat [MOD zucP] := by
  rw [toNat_addCarry, Nat.ModEq, zucP]
  split <;> omega

theorem addCarry_ne_zero {a : BitVec 31} (ha : a ≠ 0) (b : BitVec 31) :
    Claims.addCarry a b ≠ 0 := by
  have ha := toNat_ne_zero ha
  intro h
  have hsum : 0 = if 2 ^ 31 ≤ a.toNat + b.toNat then _ else _ :=
    (congrArg BitVec.toNat h).symm.trans (toNat_addCarry a b)
  rw [zucP] at hsum
  split at hsum <;> omega

/-! ## The new cell (R249) -/

/-- A cell other than 0 is the cell of its residue, `2^31 - 1` that of residue 0. -/
theorem zucCell_mod_eq {a : BitVec 31} (ha : a ≠ 0) {v : Nat} (h : a.toNat ≡ v [MOD zucP]) :
    zucCell (v % zucP) = a := by
  have ha := toNat_ne_zero ha
  have hlt := a.isLt
  refine BitVec.eq_of_toNat_eq ?_
  rw [← h, zucCell, BitVec.toNat_ofNat, zucP]
  split <;> omega

theorem cellSum_modEq (l : Lfsr 31) : (Claims.cellSum l).toNat ≡ zucFeedback l [MOD zucP] := by
  have hadd {a b : BitVec 31} {x y : Nat} (hx : a.toNat ≡ x [MOD zucP])
      (hy : b.toNat ≡ y [MOD zucP]) : (Claims.addCarry a b).toNat ≡ x + y [MOD zucP] :=
    (addCarry_modEq a b).trans (hx.add hy)
  have hrot (a : BitVec 31) (k : Nat) (hk : k ≤ 30) := rotateLeft_modEq a hk
  calc (Claims.cellSum l).toNat
    _ ≡ 2 ^ 15 * l.s15.toNat + 2 ^ 17 * l.s13.toNat + 2 ^ 21 * l.s10.toNat +
          2 ^ 20 * l.s4.toNat + 2 ^ 8 * l.s0.toNat + l.s0.toNat [MOD zucP] :=
      hadd (hadd (hadd (hadd (hadd (hrot l.s15 15 (by decide)) (hrot l.s13 17 (by decide)))
        (hrot l.s10 21 (by decide))) (hrot l.s4 20 (by decide))) (hrot l.s0 8 (by decide))) rfl
    _ = 2 ^ 15 * l.s15.toNat + 2 ^ 17 * l.s13.toNat + 2 ^ 21 * l.s10.toNat +
          2 ^ 20 * l.s4.toNat + (1 + 2 ^ 8) * l.s0.toNat := by ring
    _ ≡ zucFeedback l [MOD zucP] := (Nat.mod_modEq _ _).symm

theorem cellSum_ne_zero {l : Lfsr 31} (h : l.s15 ≠ 0) : Claims.cellSum l ≠ 0 :=
  addCarry_ne_zero (addCarry_ne_zero (addCarry_ne_zero (addCarry_ne_zero (addCarry_ne_zero
    (rotateLeft_ne_zero h (by decide)) _) _) _) _) _

theorem zucCell_feedback_eq_cellSum {l : Lfsr 31} (h : l.s15 ≠ 0) :
    zucCell (zucFeedback l) = Claims.cellSum l := by
  have hcell := zucCell_mod_eq (cellSum_ne_zero h) (cellSum_modEq l)
  have hlt : zucFeedback l < zucP := Nat.mod_lt _ (by decide)
  rwa [Nat.mod_eq_of_lt hlt] at hcell

theorem zucCell_feedback_add_eq_addCarry {l : Lfsr 31} (h : l.s15 ≠ 0) (u : BitVec 31) :
    zucCell ((zucFeedback l + u.toNat) % zucP) = Claims.addCarry (Claims.cellSum l) u :=
  zucCell_mod_eq (addCarry_ne_zero (cellSum_ne_zero h) u)
    ((addCarry_modEq _ _).trans ((cellSum_modEq l).add_right _))

theorem s15_ne_zero_of_nonzero {l : Lfsr 31} (h : l.nonzero = true) : l.s15 ≠ 0 := by
  simp only [Lfsr.nonzero, List.all_eq_true, bne_iff_ne] at h
  exact h _ (by simp)

/-- Settles O31: rotations and end-around-carry sums are products and sums modulo `2^31 - 1`, and a cell
other than 0 is told by its residue. -/
theorem zucFieldArithmetic : Obligations.ZucFieldArithmetic := by
  refine ⟨fun g h => ?clocks, fun a k hk => (rotateLeft_modEq a hk).symm,
    fun a b => (addCarry_modEq a b).symm⟩
  case clocks =>
    have h15 := s15_ne_zero_of_nonzero h
    refine ⟨?work, clockZucLfsr_nonzero h, fun u => ⟨?init, clockZucLfsrInit_nonzero _ h⟩⟩
    case work => rw [clockZucLfsr, zucCell_feedback_eq_cellSum h15]; rfl
    case init => rw [clockZucLfsrInit, zucCell_feedback_add_eq_addCarry h15]; rfl

end Sys2Proof.Machine
end

section
/-! COMP128 (43_comp128.md R290 to R302): the steps of COMP128-1 as the statements write them out, the
results of the three commands: O32 to O34. -/

namespace Sys2Proof.Machine

/-! ## The steps of COMP128-1 (R292, R293, R295) -/

theorem getD_set_self {α : Type} {xs : List α} {i : Nat} (hi : i < xs.length) (v d : α) :
    (xs.set i v).getD i d = v := by
  rw [List.getD_eq_getElem?_getD, List.getElem?_set_self hi, Option.getD_some]

theorem getD_set_of_ne {α : Type} {i k : Nat} (h : i ≠ k) (xs : List α) (v d : α) :
    (xs.set k v).getD i d = xs.getD i d := by
  rw [List.getD_eq_getElem?_getD, List.getElem?_set_ne h.symm, List.getD_eq_getElem?_getD]

/-- A level is the loops over `k` and `l` (R292). -/
theorem comp128Level_eq_foldl (t : List (List Nat)) (j : Nat) (x : List Nat) :
    comp128Level t j x =
      (List.range (2 ^ j)).foldl (fun x k => (List.range (2 ^ (4 - j))).foldl (fun x l =>
        comp128Pair t j (l + k * 2 ^ (5 - j)) (l + k * 2 ^ (5 - j) + 2 ^ (4 - j)) x) x) x := by
  simp only [comp128Level, comp128Pairs, List.foldl_flatMap, List.foldl_map]

/-- Bit `i` of the nibbles' string is a bit of nibble `i / 4`, the most significant first (R293). -/
theorem getD_comp128Bits (x : List Nat) (i : Nat) :
    (comp128Bits x).getD i false = (x.getD (i / 4) 0).testBit (3 - i % 4) := by
  have hzero : wordBits (BitVec.ofNat 4 0) = List.replicate 4 false := by decide
  rw [comp128Bits, getD_flatMap (w := 4) (by decide) (fun _ => wordBits_length _) (x₀ := 0)
    (fun k => by rw [hzero]; exact List.getElem?_getD_replicate_default_eq _ _ _),
    getD_wordBits _ (Nat.mod_lt _ (by decide)), BitVec.getLsbD_ofNat, decide_eq_true (by omega),
    Bool.true_and]

/-- The number of eight bits given by their places, each with its weight (00_scope.md R13). -/
theorem bitsToNat_map_range_eight (f : Nat → Bool) :
    bitsToNat ((List.range 8).map f) =
      (List.range 8).foldl (fun v k => v + (f k).toNat * 2 ^ (7 - k)) 0 := by
  rw [bitsToNat, List.foldl_map, show List.range 8 = [0, 1, 2, 3, 4, 5, 6, 7] from rfl]
  simp only [List.foldl_cons, List.foldl_nil]
  ring

theorem comp128Permute_length {x : List Nat} (hx : x.length = 32) :
    (comp128Permute x).length = 32 := by
  simp [comp128Permute, hx]

theorem getD_comp128Permute_low {x : List Nat} (hx : x.length = 32) {j : Nat} (hj : j < 16) :
    (comp128Permute x).getD j 0 = x.getD j 0 := by
  rw [comp128Permute, List.getD_append _ _ _ _ (by simpa [hx] using hj),
    List.getD_eq_getElem?_getD, List.getElem?_take_of_lt hj, List.getD_eq_getElem?_getD]

theorem getD_comp128Permute_high {x : List Nat} (hx : x.length = 32) {j : Nat} (hj : j < 16) :
    (comp128Permute x).getD (16 + j) 0 = (List.range 8).foldl (fun v k =>
      v + ((comp128Bits x).getD ((8 * j + k) * 17 % 128) false).toNat * 2 ^ (7 - k)) 0 := by
  rw [comp128Permute, getD_append_add (by simp [hx]), List.getD_eq_getElem _ _ (by simpa using hj),
    List.getElem_map, List.getElem_range, bitsToNat_map_range_eight]

/-- Eight bytes side by side are two words of four (20_memory.md R83). -/
theorem wordOfBytes_append_wordOfBytes (b0 b1 b2 b3 b4 b5 b6 b7 : Byte) :
    wordOfBytes b0 b1 b2 b3 ++ wordOfBytes b4 b5 b6 b7 =
      b0 ++ b1 ++ b2 ++ b3 ++ b4 ++ b5 ++ b6 ++ b7 := by
  refine BitVec.eq_of_toNat_eq ?_
  simp only [wordOfBytes, toNat_append_add]
  ring

/-! ## The commands (R290, R300 to R302) -/

/-- Check looks at no operand of a COMP128 command (60_exceptions.md R362). -/
theorem check_comp128_eq_none {i : Instr} (hi : i ∈ [Instr.comp128V1, .comp128V2, .comp128V3])
    (s : State) : check i s = .none := by
  obtain rfl | rfl | rfl : i = .comp128V1 ∨ i = .comp128V2 ∨ i = .comp128V3 := by simpa using hi
  all_goals exact (check_eq_none_iff _ s).mpr ⟨rfl, nofun, nofun, nofun, nofun, rfl⟩

/-- What a COMP128 command with results `r` leaves (R290). -/
theorem complete_setComp128 (s : State) (r : Word × DWord) :
    complete (setComp128 s r) = { s with
      res := { w0 := r.1, w1 := r.2.extractLsb' 32 32, w2 := r.2.extractLsb' 0 32,
               w3 := s.res.w3 }
      status := Claims.ok s } := rfl

theorem exec_comp128V1 (s : State) :
    exec .comp128V1 s = .next (complete (setComp128 s (comp128V1 s.params.tables
      (s.key.bytes.map BitVec.toNat) (s.iv.bytes.map BitVec.toNat)))) :=
  exec_of_check (check_comp128_eq_none (by simp) s)

theorem exec_comp128V2 (s : State) :
    exec .comp128V2 s = .next (complete (setComp128 s (comp128V2 s.key.bits s.iv.bits))) :=
  exec_of_check (check_comp128_eq_none (by simp) s)

theorem exec_comp128V3 (s : State) :
    exec .comp128V3 s = .next (complete (setComp128 s (comp128V3 s.key.bits s.iv.bits))) :=
  exec_of_check (check_comp128_eq_none (by simp) s)

/-! ## COMP128.V1's result (R290 to R295) -/

/-- Settles O32: a pair sets two entries, the levels are the loops, the permutation's bits are the nibbles'
bits, and the output bytes stand side by side. -/
theorem comp128V1Result : Obligations.Comp128V1Result := by
  refine ⟨fun s => ?result, fun t j m n x hx hmn hn => ?pair, fun ts x => ?levels,
    fun x j hx hj => ?permutation, fun ts ki rand _ _ => ?output⟩
  case result => exact exec_comp128V1 s
  case pair =>
    refine ⟨by simpa [comp128Pair] using hx, ?_, ?_, fun i hm hn => ?_⟩
    · rw [comp128Pair, getD_set_of_ne hmn.ne, getD_set_self (by omega)]; rfl
    · rw [comp128Pair, getD_set_self (by rw [List.length_set]; omega)]; rfl
    · rw [comp128Pair, getD_set_of_ne hn, getD_set_of_ne hm]
  case levels => simp only [comp128Compress, comp128Level_eq_foldl]
  case permutation =>
    refine ⟨comp128Permute_length hx, getD_comp128Permute_low hx hj, ?_⟩
    rw [getD_comp128Permute_high hx hj]
    simp only [getD_comp128Bits]
  case output => exact Prod.ext rfl (wordOfBytes_append_wordOfBytes _ _ _ _ _ _ _ _)

/-! ## The last bits of Kc (R296) -/

/-- The last two bits of `Kc[6]` are below both entries it is made of. -/
theorem getLsbD_comp128KcByte6 (x : List Nat) {k : Nat} (hk : k < 2) :
    (comp128KcByte6 x).getLsbD k = false := by
  rw [comp128KcByte6, BitVec.getLsbD_ofNat, Nat.testBit_or, Nat.testBit_shiftLeft,
    Nat.testBit_shiftLeft, decide_eq_false (by omega : ¬ k ≥ 6),
    decide_eq_false (by omega : ¬ k ≥ 2)]
  simp only [Bool.false_and, Bool.or_self, Bool.and_false]

theorem extractLsb'_wordOfBytes_eq_zero (b0 b1 : Byte) {b2 : Byte}
    (h : ∀ k < 2, b2.getLsbD k = false) : (wordOfBytes b0 b1 b2 0).extractLsb' 0 10 = 0 := by
  refine BitVec.eq_of_getLsbD_eq fun k hk => ?_
  rw [BitVec.getLsbD_extractLsb', decide_eq_true hk, Bool.true_and, Nat.zero_add, wordOfBytes,
    BitVec.getLsbD_append, BitVec.getLsbD_append]
  by_cases hbyte : k < 8
  · rw [if_pos hbyte]; rfl
  · rw [if_neg hbyte, if_pos (by omega), h _ (by omega)]; exact BitVec.getLsbD_zero.symm

/-- Settles O34: RES2 is `Kc[4]` to `Kc[7]`, and `Kc[7]` is 0. -/
theorem comp128V1KcEndsInZeros : Obligations.Comp128V1KcEndsInZeros := by
  intro s t ht
  obtain rfl := Host.Outcome.next.inj ((exec_comp128V1 s).symm.trans ht)
  rw [complete_setComp128]
  dsimp only [comp128V1, comp128Kc]
  rw [BitVec.extractLsb'_append_eq_right]
  exact extractLsb'_wordOfBytes_eq_zero _ _ fun _ => getLsbD_comp128KcByte6 _

/-! ## COMP128.V2 and COMP128.V3 (R297, R298) -/

/-- RES1 and RES2 side by side are Kc (R290). -/
theorem setComp128_res_w1_append_w2 (s : State) (r : Word × DWord) :
    (setComp128 s r).res.w1 ++ (setComp128 s r).res.w2 = r.2 :=
  BitVec.extractLsb'_append_extractLsb'

/-- Settles O33: each command completes with the core's results set, Kc in two halves. -/
theorem comp128V2AndV3Results : Obligations.Comp128V2AndV3Results := by
  intro s rand r2 r3
  exact ⟨⟨_, exec_comp128V2 s, rfl, rfl, setComp128_res_w1_append_w2 s _, rfl⟩,
    ⟨_, exec_comp128V3 s, rfl, rfl, setComp128_res_w1_append_w2 s _, rfl⟩⟩

end Sys2Proof.Machine
end

section
/-! The steps of Keccak-p[1600] lane by lane, and where its constants come from (44_keccak.md R320 to
R326): O36, O37. -/

namespace Sys2Proof.Machine

/-! ## Lanes (R320) -/

/-- A lane is told by its indexes mod 5. -/
theorem lane_congr (a : List DWord) {x y u v : Nat} (hx : x % 5 = u % 5) (hy : y % 5 = v % 5) :
    lane a x y = lane a u v := by
  rw [lane, hx, hy, lane]

theorem lane_lanes (f : Nat → Nat → DWord) (x y : Nat) :
    lane (lanes f) x y = f (x % 5) (y % 5) := by
  have hx : x % 5 < 5 := Nat.mod_lt x (by decide)
  have hy : y % 5 < 5 := Nat.mod_lt y (by decide)
  rw [lane, List.getD_eq_getElem _ _ (by rw [lanes, List.length_map, List.length_range]; omega)]
  simp only [lanes, List.getElem_map, List.getElem_range]
  congr 1 <;> omega

theorem lane_lanes_of_lt (f : Nat → Nat → DWord) {x y : Nat} (hx : x < 5) (hy : y < 5) :
    lane (lanes f) x y = f x y := by
  rw [lane_lanes, Nat.mod_eq_of_lt hx, Nat.mod_eq_of_lt hy]

/-! ## The steps (R321 to R325) -/

/-- pi (R323), read from its source: at `B[y][2x + 3y]` the model looks up lane `A[y + 3 (2x + 3y)][y]`,
whose first index `6x + 10y` is `x` mod 5. -/
theorem lane_keccakPi (a : List DWord) (x y : Nat) :
    lane (keccakPi a) y (2 * x + 3 * y) = lane a x y := by
  rw [keccakPi, lane_lanes]
  exact lane_congr a (by omega) (Nat.mod_mod y 5)

theorem lane_keccakRho (a : List DWord) {x y : Nat} (hx : x < 5) (hy : y < 5) :
    lane (keccakRho a) x y = (lane a x y).rotateLeft (rhoOffset x y) :=
  lane_lanes_of_lt _ hx hy

theorem lane_keccakIota (rc : DWord) (a : List DWord) {x y : Nat} (hx : x < 5) (hy : y < 5) :
    lane (keccakIota rc a) x y = if x = 0 ∧ y = 0 then lane a x y ^^^ rc else lane a x y := by
  rw [keccakIota, lane_lanes_of_lt _ hx hy]
  split
  case isTrue h => rw [h.1, h.2]
  case isFalse => rfl

/-- Settles O36: each step computes its lanes by their indexes, pi from its target. -/
theorem keccakStepsByLane : Obligations.KeccakStepsByLane := by
  intro a x y hx hy at' c
  have hrho : at' (keccakRho a) x y = (at' a x y).rotateLeft (rhoOffset x y) :=
    lane_keccakRho a hx hy
  exact ⟨lane_lanes_of_lt _ hx hy, hrho, lane_keccakPi a x y, (lane_keccakPi _ x y).trans hrho,
    lane_lanes_of_lt _ hx hy, fun rc => lane_keccakIota rc a hx hy⟩

/-! ## The constants (R322, R326) -/

/-- Settles O37: the walk's 24 offsets and the 24 constants' 64 bits are computed. -/
theorem keccakConstantsFromTheirRules : Obligations.KeccakConstantsFromTheirRules := by
  refine ⟨rfl, ?offsets, ?roundConstants⟩
  case offsets => decide
  case roundConstants => decide +kernel

end Sys2Proof.Machine
end

section
/-! The rounds of Keccak-p[1600] and what KECCAK.P1600 leaves in STATE (44_keccak.md R327, R330,
20_memory.md R90): O35. -/

namespace Sys2Proof.Machine

/-! ## Rounds (R327) -/

/-- The constants taken in order are the constants of rounds 0 to 23. -/
theorem keccakRC_eq_map_range : keccakRC = (List.range 24).map (keccakRC.getD · 0) :=
  take_eq_map_getD (xs := keccakRC) (n := 24) (by decide) 0

theorem keccakP1600_eq_foldl_range (a : List DWord) :
    keccakP1600 a =
      (List.range 24).foldl (fun b ir => keccakRound b (keccakRC.getD ir 0)) a := by
  rw [keccakP1600]
  conv_lhs => rw [keccakRC_eq_map_range, List.foldl_map]

/-! ## Lanes in STATE (R90) -/

/-- The sum of eight terms, written out. -/
theorem foldl_range_eight_add (g : Nat → Nat) :
    (List.range 8).foldl (fun v j => v + g j) 0 =
      g 0 + g 1 + g 2 + g 3 + g 4 + g 5 + g 6 + g 7 := by
  rw [show List.range 8 = [0, 1, 2, 3, 4, 5, 6, 7] from rfl]
  simp only [List.foldl_cons, List.foldl_nil, Nat.zero_add]

theorem toNat_append_eight (b : Nat → Byte) :
    (b 7 ++ b 6 ++ b 5 ++ b 4 ++ b 3 ++ b 2 ++ b 1 ++ b 0).toNat =
      (List.range 8).foldl (fun v j => v + (b j).toNat * 2 ^ (8 * j)) 0 := by
  rw [foldl_range_eight_add fun j => (b j).toNat * 2 ^ (8 * j)]
  simp only [toNat_append_add]
  ring

/-- A lane of eight bytes as a number: byte `j` has weight `2^(8 j)`. -/
theorem laneOfBytes_eq_ofNat (bs : List Byte) :
    laneOfBytes bs = BitVec.ofNat 64
      ((List.range 8).foldl (fun v j => v + (bs.getD j 0).toNat * 2 ^ (8 * j)) 0) := by
  rw [← toNat_append_eight (bs.getD · 0), BitVec.ofNat_toNat, BitVec.setWidth_eq]
  rfl

theorem stateLanes_eq (s : State) :
    stateLanes s = (List.range 25).map (fun l => BitVec.ofNat 64 ((List.range 8).foldl
      (fun v j => v + (readByte s (stateBase + 8 * l + j)).toNat * 2 ^ (8 * j)) 0)) := by
  refine List.map_congr_left fun l _ => ?_
  rw [laneOfBytes_eq_ofNat]
  refine congrArg _ (List.foldl_ext _ _ _ fun v j hj => ?_)
  rw [List.getD_eq_getElem _ _ (by simpa using hj), readBytes_getElem]

theorem getD_laneBytes (v : DWord) {j : Nat} (hj : j < 8) :
    (laneBytes v).getD j 0 = v.extractLsb' (8 * j) 8 := by
  rw [List.getD_eq_getElem _ _ (by simpa using hj)]
  simp [laneBytes]

/-- Byte `8 l + j` of the bytes of lanes is byte `j` of lane `l`. -/
theorem getD_flatMap_laneBytes (a : List DWord) (l : Nat) {j : Nat} (hj : j < 8) :
    (a.flatMap laneBytes).getD (8 * l + j) 0 = (a.getD l 0).extractLsb' (8 * j) 8 := by
  have hzero : laneBytes 0 = List.replicate 8 0 := by decide
  rw [getD_flatMap (by decide) laneBytes_length (x₀ := 0)
    (fun k => by rw [hzero]; exact List.getElem?_getD_replicate_default_eq _ _ _),
    show (8 * l + j) / 8 = l by omega, show (8 * l + j) % 8 = j by omega, getD_laneBytes _ hj]

/-! ## The command (R330) -/

/-- Check looks at no operand of KECCAK.P1600 (60_exceptions.md R362). -/
theorem check_keccakP1600_eq_none (s : State) : check .keccakP1600 s = .none :=
  (check_eq_none_iff _ s).mpr ⟨rfl, nofun, nofun, nofun, nofun, rfl⟩

theorem exec_keccakP1600 (s : State) :
    exec .keccakP1600 s =
      .next (complete (writeBytes s stateBase (storedBytes .keccakP1600 s))) :=
  exec_of_check (check_keccakP1600_eq_none s)

/-- Completion writes STATUS alone (30_encoding.md R116). -/
theorem complete_writeBytes (s : State) (a : Nat) (bs : List Byte) :
    complete (writeBytes s a bs) =
      { s with mem := (complete (writeBytes s a bs)).mem, status := Claims.ok s } :=
  congrArg complete (writeBytes_eq_with_mem s a bs)

@[simp] theorem readByte_complete (s : State) (a : Nat) : readByte (complete s) a = readByte s a := rfl

/-- The permuted lanes stand in STATE, each least significant byte first (R90). -/
theorem readByte_writeBytes_keccakP1600 (s : State) {l j : Nat} (hl : l < 25) (hj : j < 8) :
    readByte (writeBytes s stateBase (storedBytes .keccakP1600 s)) (stateBase + 8 * l + j) =
      ((keccakP1600 (stateLanes s)).getD l 0).extractLsb' (8 * j) 8 := by
  have hin : 8 * l + j < (storedBytes .keccakP1600 s).length := by
    rw [storedBytes_keccakP1600_length]; omega
  rw [Nat.add_assoc, readByte_writeBytes_of_in _ _ _ _ hin, ← List.getD_eq_getElem _ 0, storedBytes,
    getD_flatMap_laneBytes _ _ hj]

/-- Settles O35: the fold over the constants is one over the rounds' numbers; the command passes Check and
stores the 200 bytes of the permuted lanes from STATE[0] up. -/
theorem keccakResult : Obligations.KeccakResult := by
  refine ⟨keccakP1600_eq_foldl_range, fun s => ?_⟩
  intro before
  have hbefore : stateLanes s = before := stateLanes_eq s
  refine ⟨_, exec_keccakP1600 s, complete_writeBytes s _ _, fun x y j hx hy hj => ?stored,
    fun a ha => ?kept⟩
  case stored =>
    rw [readByte_complete, ← hbefore]
    exact readByte_writeBytes_keccakP1600 s (l := x + 5 * y) (by omega) hj
  case kept =>
    rw [readByte_complete]
    exact readByte_writeBytes_of_out _ _ _ _ (by rwa [storedBytes_keccakP1600_length])

end Sys2Proof.Machine
end

section
/-! The control commands NOP and CTX.CLEAR (45_control.md R340, R341): O10, O11. -/

namespace Sys2Proof.Machine

/-! ## NOP (R340) -/

/-- Check looks at no operand of NOP (60_exceptions.md R362). -/
theorem check_nop_eq_none (s : State) : check .nop s = .none :=
  (check_eq_none_iff _ s).mpr ⟨rfl, nofun, nofun, nofun, nofun, rfl⟩

theorem exec_nop (s : State) : exec .nop s = .next (complete s) :=
  exec_of_check (check_nop_eq_none s)

/-- OP 0 is not marked "ctx", so CTX and RSV must both be 0 (R114). -/
theorem illegal_of_op_eq_zero {w : Word} (hop : Claims.op w = 0)
    (h : Claims.ctx w ≠ 0 ∨ Claims.rsv w ≠ 0) : Claims.Illegal w := by
  obtain hctx | hrsv := h
  · exact .inr (.inr ⟨by rw [hop]; decide, hctx⟩)
  · exact .inr (.inl hrsv)

/-- A completed step raises IRQ exactly when it is enabled (10_state.md R56). -/
theorem irq_complete (s : State) : (complete s).irq = s.doneie := Bool.and_true _

/-- Settles O10: Check lets NOP through and its effect is the identity, so completion is all it does. -/
theorem nopOnlyCompletes : Obligations.NopOnlyCompletes := by
  refine ⟨exec_nop, fun s t h => ?irq,
    fun w hop h => (decode_eq_error_iff w).mpr (illegal_of_op_eq_zero hop h), rfl,
    fun s t h => ?status⟩
  case irq =>
    obtain rfl := Host.Outcome.next.inj ((exec_nop s).symm.trans h)
    exact irq_complete s
  case status =>
    obtain rfl := Host.Outcome.next.inj ((exec_nop _).symm.trans h)
    change Status.accepted.completed.word = 0x00000002
    decide

/-! ## CTX.CLEAR (R341) -/

/-- A command of an existing slot that finds every operand in range and its record missing fails with
NOCTX (60_exceptions.md R362). -/
theorem exec_of_recordMissing {i : Instr} {c : Nat} {s : State} (hslot : i.slot? = some c)
    (hc : c < s.params.nCtx)
    (hn : usesNwords i = true → opNwords s ≤ s.params.dbufBytes / 4)
    (hmissing : recordMissing i s = true) : exec i s = .next (raiseError .noctx s) := by
  have hexists : slotMissing i s = false := by simp [slotMissing, hslot, hc]
  have hmode : usesBearer i = false ∧ usesDirection i = false := by
    cases i <;> cases hslot <;> exact ⟨rfl, rfl⟩
  have hrange : ¬ (usesNwords i = true ∧ s.params.dbufBytes / 4 < opNwords s) :=
    fun h => Nat.not_lt.mpr (hn h.1) h.2
  have hcheck : check i s = .noctx := by
    simp [check, usesLength, hexists, hmode, hrange, hmissing]
  rw [exec_eq, hcheck, engineStep_error (by decide)]

/-- Settles O11: Check lets the command through and its one effect is on its slot, whose three records the
next commands then find missing. -/
theorem ctxClearResult : Obligations.CtxClearResult := by
  intro c s hc hslots
  have hcheck := check_eq_none_of_slot (i := .ctxClear c) rfl hc nofun rfl
  let t := complete (performOf (.ctxClear c) s)
  have hclear : t.slot c = .clear :=
    performOf_slot_of_slot (i := .ctxClear c) rfl (hslots ▸ hc)
  have hmissing {i : Instr} (hi : i ∈ [Instr.kasumiEnc c, .snow3gGenks c, .zucGenks c]) :
      recordMissing i t = true := by
    simp only [List.mem_cons, List.not_mem_nil, or_false] at hi
    obtain rfl | rfl | rfl := hi <;> rw [recordMissing, hclear] <;> rfl
  exact ⟨t, exec_of_check hcheck, rfl, hclear,
    fun d hd => performOf_slot_of_ne (i := .ctxClear c) rfl hd s,
    exec_of_recordMissing rfl hc nofun (hmissing (by simp)),
    fun hn => ⟨exec_of_recordMissing rfl hc (fun _ => hn) (hmissing (by simp)),
      exec_of_recordMissing rfl hc (fun _ => hn) (hmissing (by simp))⟩⟩

end Sys2Proof.Machine
end

section
/-! The engine step by what Check reports: the order of the checks, and an error that writes STATUS alone
and stands when the word is launched again (60_exceptions.md R362, R365): O8, O9. -/

namespace Sys2Proof.Machine

/-- With BUSY = 1, an error that Check reports is what the engine step raises (R365). -/
theorem engineTurn_of_check_ne_none {s : State} (hb : s.status.busy = true)
    (h : Claims.check s.cmd s ≠ .none) :
    engineTurn s = .next (raiseError (Claims.check s.cmd s) s) := by
  cases hd : decode s.cmd with
  | error e =>
    have hill : Claims.Illegal s.cmd := (decode_eq_error_iff _).mp ⟨e, hd⟩
    have hcheck : Claims.check s.cmd s = .illegal := if_pos hill
    rw [hcheck, engineTurn_of_illegal hb hill]
  | ok i =>
    rw [check_eq_of_decode hd] at h ⊢
    rw [engineTurn_of_decode hb hd, exec_eq, engineStep_error h]

/-- With BUSY = 1, a word that passes Check is a command whose effect the engine step completes (R116). -/
theorem engineTurn_of_check_eq_none {s : State} (hb : s.status.busy = true)
    (h : Claims.check s.cmd s = .none) :
    ∃ i, engineTurn s = .next (complete (performOf i s)) := by
  obtain ⟨i, hd, hc⟩ := exists_decode_of_check h
  exact ⟨i, (engineTurn_of_decode hb hd).trans (exec_of_check hc)⟩

/-- Settles O8: an error of Check is raised, which writes STATUS; without one the command's effect, which
keeps STATUS, is completed. -/
theorem checksInOrder : Obligations.ChecksInOrder := by
  refine fun s hb => ⟨engineTurn_of_check_ne_none hb, fun h => ?completes⟩
  case completes =>
    obtain ⟨i, hi⟩ := engineTurn_of_check_eq_none hb h
    exact ⟨_, hi, by rw [complete_status, performOf_status]; rfl⟩

/-- Check reads neither CMD nor STATUS: a word launched again on the state an error left is checked as
before (R365). -/
theorem check_acceptCommand_raiseError (w v : Word) (e : ErrCode) (s : State) :
    Claims.check w (acceptCommand (raiseError e s) v) = Claims.check w s := rfl

/-- Settles O9: the error raised writes STATUS alone, and STATUS and CMD do not enter Check, so the retry
raises it again. -/
theorem errorsWriteStatusOnly : Obligations.ErrorsWriteStatusOnly := by
  intro s t hb h ht
  obtain rfl := Host.Outcome.next.inj ((engineTurn_of_check_ne_none hb h).symm.trans ht)
  let retried := acceptCommand (raiseError (Claims.check s.cmd s) s) s.cmd
  have hcheck : Claims.check retried.cmd retried = Claims.check s.cmd s :=
    check_acceptCommand_raiseError s.cmd s.cmd _ s
  exact ⟨rfl, _, engineTurn_of_check_ne_none rfl (hcheck ▸ h), hcheck, rfl⟩

end Sys2Proof.Machine
end

section
/-! The reset event (70_reset_and_hazards.md R400, R402): O58. -/

namespace Sys2Proof.Machine

theorem step_of_bus_reset {s : State} {es : List Event} (h : s.bus = .reset :: es) :
    step s = .next (resetTurn (setBus s es)) := by
  simp [step, h]

theorem slot_resetTurn (s : State) (c : Nat) : (resetTurn s).slot c = .clear :=
  slot_afterReset s.params (s.draw + 1) c

/-- A command that reads a record of a slot finds none after the reset event (R402). -/
theorem exec_resetTurn_of_recordMissing {i : Instr} {c : Nat} {s : State} (hslot : i.slot? = some c)
    (hc : c < s.params.nCtx) (hmissing : recordMissing i (resetTurn s) = true) :
    exec i (resetTurn s) = .next (raiseError .noctx (resetTurn s)) :=
  exec_of_recordMissing hslot hc (fun _ => Nat.zero_le _) hmissing

/-- Settles O58: the step is the reset event, whose state holds every register at its reset value and a
cleared record in every slot. -/
theorem resetEventDestroysContexts : Obligations.ResetEventDestroysContexts := by
  intro s es hbus
  refine ⟨_, step_of_bus_reset hbus, rfl, rfl, rfl, rfl, rfl, rfl, rfl, rfl, rfl, rfl, rfl, rfl, rfl,
    rfl, fun c hc => ⟨?_, ?_, ?_⟩⟩
  all_goals exact exec_resetTurn_of_recordMissing rfl hc (by rw [recordMissing, slot_resetTurn]; rfl)

end Sys2Proof.Machine
end
